-- ==== Sys2Proof/Word.lean ====
section
/-! DEFINITION. The word types of the PF412 model: bytes, sequence numbers, addresses, stamps.
Only what the manual treats as bits is a bit vector (spec/00_scope.md, "Conventions"). -/

namespace Sys2Proof

/-- One byte of a block body or of a pair frame. -/
abbrev Byte := BitVec 8

/-- A sequence number: 14 bits, wrapping (spec/00_scope.md, "Sequence numbers"). -/
abbrev Seq := BitVec 14

/-- A reading of the station's free-running 32-bit microsecond time base (spec/00_scope.md, "Time"). -/
abbrev Stamp := BitVec 32

/-- A bus address: 0 to 5 a station, 6 all stations (QUERY destination only), 7 the bridge (R3). -/
abbrev Address := BitVec 3

/-- The 28-bit arbitration field: kind code, value, sender address, pair index (R1). -/
abbrev ArbField := BitVec 28

/-- The distance from `a` to `b`, (b - a) mod 16384 (spec/00_scope.md, "Sequence numbers"). -/
abbrev seqDist (a b : Seq) : Nat := (b - a).toNat

end Sys2Proof
end

