-- ==== Sys2Proof/Syntax.lean ====
section
/-! DEFINITION. The commands of the PF412 block: one constructor of `Instr` per row of spec/opcode_table.json, with
its operands. A bus block and a pair frame are carried as the receiver holds them: fields of the arbitration field
or header as bits, and the body as bytes (R1, R3, R180 to R182). -/

namespace Sys2Proof

/-- A pair of the station, A to D, pair index 0 to 3 (spec/00_scope.md, "Names and numbers"). -/
inductive Pair where
  | a | b | c | d
  deriving DecidableEq, Repr

/-- A bus block without its kind, which the command's constructor says: the value field, the sender address and
the pair index of the arbitration field, and the body bytes (R1, R3). -/
structure BusBlock where
  value : BitVec 20
  sender : Address
  pair : BitVec 2
  body : List Byte
  deriving DecidableEq, Repr

/-- How a station comes to observe a block of a kind stations send (R7): its own attempt completed without a
read-back mismatch (the block is then the one it had on the line), or its receiver took a good block. -/
inductive Observed where
  | own
  | heard (blk : BusBlock)
  deriving DecidableEq, Repr

/-- Why a received block is bad (R6): its CRC does not match, so it was followed to its end, or a stuffing
violation (an abort mark among them) made the receiver abandon it (R2, R4). -/
inductive BadCause where
  | crc
  | stuffing
  deriving DecidableEq, Repr

/-- A good pair frame without its kind code, which the command's constructor says: the flags byte, the length
field, the two-byte sequence field, the 24-bit frame count and the body (R182). -/
structure Frame where
  flags : Byte
  lenLess1 : Byte
  seq : BitVec 16
  count : BitVec 24
  body : List Byte
  deriving DecidableEq, Repr

/-- The commands, one per row of spec/opcode_table.json in the table's order. A QUERY's block carries its whole
body: destination, item code, argument (R181). -/
inductive Instr where
  /-- PIN_RESET (R34): release of RESET_N. -/
  | pinReset
  /-- CHAIN_IN_ASSERTED (R18): CHAIN_IN is seen asserted. -/
  | chainInAsserted
  /-- START_RECORD_READ (R19): the sixteen record bytes, record byte 0 in the highest bits, and the sum. -/
  | startRecordRead (record : BitVec 128) (sum : BitVec 16)
  /-- START_MEMORY_TIMEOUT (R19): no acknowledgement, or not all bytes within 2 ms. -/
  | startMemoryTimeout
  /-- BUS_RESET (R15): the line has been dominant for 64 µs. -/
  | busReset
  /-- BUS_RELEASE (R35): the line returns to recessive after a bus reset. -/
  | busRelease
  /-- LISTENING_PERIOD_END (R23). -/
  | listeningPeriodEnd
  /-- BUS_IDLE_CONTEND (R9): the bus is idle; `others` are the arbitration fields of the other attachments that
  start a block at this moment. -/
  | busIdleContend (others : List ArbField)
  /-- SEND_ABORT (R10): a read-back mismatch in the block this station has on the line. -/
  | sendAbort
  /-- BAD_BLOCK (R6): a block of another attachment ends bad. -/
  | badBlock (cause : BadCause)
  /-- CLAIM_SLOT_TIMEOUT (R13): eight arbitration bit times without a start. -/
  | claimSlotTimeout
  /-- OFFER (R37). -/
  | offer (blk : BusBlock)
  /-- CLAIM (R43). -/
  | claim (o : Observed)
  /-- RELEASE (R146). -/
  | release (o : Observed)
  /-- SKIP (R147). -/
  | skip (o : Observed)
  /-- REBASE (R148). -/
  | rebase (o : Observed)
  /-- HOLD_ON (R159). -/
  | holdOn (blk : BusBlock)
  /-- HOLD_OFF (R160). -/
  | holdOff (blk : BusBlock)
  /-- MARK (R28). -/
  | mark (o : Observed)
  /-- REPLY_OBSERVED (R7). -/
  | replyObserved (o : Observed)
  /-- IDENTITY (R168). -/
  | identity (blk : BusBlock)
  /-- STATION (R168). -/
  | station (blk : BusBlock)
  /-- PAIR (R169). -/
  | pair (blk : BusBlock)
  /-- COUNTERS (R171). -/
  | counters (blk : BusBlock)
  /-- SNAPSHOT (R170). -/
  | snapshot (blk : BusBlock)
  /-- EVENTS (R172). -/
  | events (blk : BusBlock)
  /-- RING_FREEZE (R172). -/
  | ringFreeze (blk : BusBlock)
  /-- RING_THAW (R172). -/
  | ringThaw (blk : BusBlock)
  /-- UNKNOWN_ITEM (R167). -/
  | unknownItem (blk : BusBlock)
  /-- BEACON_EXPIRY (R25). -/
  | beaconExpiry
  /-- HOLD_OFF_EXPIRY (R84). -/
  | holdOffExpiry (p : Pair)
  /-- MONITOR_PERIOD_END (R107). -/
  | monitorPeriodEnd (p : Pair)
  /-- DETECT_TIMEOUT (R88). -/
  | detectTimeout (p : Pair)
  /-- TRAINING_TIMEOUT (R90). -/
  | trainingTimeout (p : Pair)
  /-- VERDICT_DEADLINE (R94). -/
  | verdictDeadline (p : Pair)
  /-- BURST_WINDOW_CLOSE (R95). -/
  | burstWindowClose (p : Pair)
  /-- CLOSING_PROBE_REPEAT (R96). -/
  | closingProbeRepeat (p : Pair)
  /-- ECHO_TIMEOUT (R99). -/
  | echoTimeout (p : Pair)
  /-- QUALIFICATION_TIMEOUT (R101). -/
  | qualificationTimeout (p : Pair)
  /-- LOS_HOLD_EXPIRY (R109). -/
  | losHoldExpiry (p : Pair)
  /-- RE_RATE_CHECK (R111): `margin` is the level of the pair's margin input at the check. -/
  | reRateCheck (p : Pair) (margin : BitVec 6)
  /-- RE_RATE_TIMEOUT (R117). -/
  | reRateTimeout (p : Pair)
  /-- WIND_DOWN_LIMIT (R123). -/
  | windDownLimit (p : Pair)
  /-- SERVICE_CLOCK_60S (R85). -/
  | serviceClock60s (p : Pair)
  /-- SKIP_TIMER_EXPIRY (R154). -/
  | skipTimerExpiry
  /-- HOLD_LIMIT_EXPIRY (R161). -/
  | holdLimitExpiry
  /-- FRAME_BOUNDARY (R69). -/
  | frameBoundary (p : Pair)
  /-- FRAG_COMPLETE (R75). -/
  | fragComplete (p : Pair)
  /-- RATE_SWITCH_SENT (R115). -/
  | rateSwitchSent (p : Pair)
  /-- RATE_ASK_SENT (R113). -/
  | rateAskSent (p : Pair)
  /-- ECHO_ASK_SENT (R98). -/
  | echoAskSent (p : Pair)
  /-- ECHO_SENT (R99). -/
  | echoSent (p : Pair)
  /-- CLOSING_PROBE_SENT (R96). -/
  | closingProbeSent (p : Pair)
  /-- OWN_LEAVE_SENT (R122). -/
  | ownLeaveSent (p : Pair)
  /-- FRAME_BAD_CRC (R74). -/
  | frameBadCrc (p : Pair)
  /-- FRAG (R128). -/
  | frag (p : Pair) (f : Frame)
  /-- IDLE (R72). -/
  | idle (p : Pair) (f : Frame)
  /-- WAKE (R88). -/
  | wake (p : Pair) (f : Frame)
  /-- PARAMS (R91). -/
  | params (p : Pair) (f : Frame)
  /-- PROBE (R95). -/
  | probe (p : Pair) (f : Frame)
  /-- CLOSING_PROBE (R96). -/
  | closingProbe (p : Pair) (f : Frame)
  /-- VERDICT (R94). -/
  | verdict (p : Pair) (f : Frame)
  /-- CLOSING_VERDICT (R96). -/
  | closingVerdict (p : Pair) (f : Frame)
  /-- ECHO_ASK (R98). -/
  | echoAsk (p : Pair) (f : Frame)
  /-- ECHO (R99). -/
  | echo (p : Pair) (f : Frame)
  /-- TEST (R101): `margin` is the level of the pair's margin input, read if this frame's count of good TEST
  frames brings the entry to SERVICE (R102, R106). -/
  | test (p : Pair) (f : Frame) (margin : BitVec 6)
  /-- QUALIFIED (R102): `margin` as for TEST. -/
  | qualified (p : Pair) (f : Frame) (margin : BitVec 6)
  /-- RATE_ASK (R114). -/
  | rateAsk (p : Pair) (f : Frame)
  /-- RATE_SWITCH (R116). -/
  | rateSwitch (p : Pair) (f : Frame)
  /-- WIND_DOWN (R119). -/
  | windDown (p : Pair) (f : Frame)
  /-- LEAVE (R124). -/
  | leave (p : Pair) (f : Frame)
  /-- UNKNOWN_FRAME_KIND (R182): `kind` is the frame's kind code. -/
  | unknownFrameKind (p : Pair) (kind : Byte) (f : Frame)
  deriving DecidableEq, Repr

end Sys2Proof
end

