-- ==== Sys2Proof/Decode.lean ====
section
/-! DEFINITION. The command a word of spec/opcode_table.json spells. No row of that table gives bits, so no word spells
one; how levels on the bus and bytes on a pair spell commands stands in Machine/Wire.lean. -/

namespace Sys2Proof

/-- The command the low `nbits` bits of `w` spell by the table's bits: none, since no row gives bits. -/
def decodeTableWord (_nbits _w : Nat) : Option Instr := none

end Sys2Proof
end

