-- ==== Sys2Proof/Config.lean ====
section
/-! DEFINITION. What every PF412 fixes (lengths of timers, sizes of its memories) and the free values: what the
manual leaves open, as constants with no body. Times are in microseconds. -/

namespace Sys2Proof.Config

/-- One millisecond, in microseconds. -/
abbrev ms : Nat := 1000

/-- Fragment slots of the send pool (R65). -/
abbrev poolSlots : Nat := 64
/-- Entries of the hold queue (R127). -/
abbrev holdEntries : Nat := 96
/-- Width of the in-window range of distances from E (spec/00_scope.md, "Sequence numbers"). -/
abbrev window : Nat := 1024
/-- First distance that is stale (spec/00_scope.md, "Sequence numbers"). -/
abbrev staleFrom : Nat := 8192
/-- Entries of the pair event ring (R176). -/
abbrev ringEntries : Nat := 16
/-- The failed-attempt count at which a pending block is dropped (R11). -/
abbrev maxFails : Nat := 4
/-- The limit of the start record read (R19). -/
abbrev readLimit : Nat := 2 * ms
/-- The listening period of a station that holds a number (R22). -/
abbrev listenNumbered : Nat := 8 * ms
/-- The listening period of a station that holds none (R22). -/
abbrev listenUnnumbered : Nat := 16 * ms
/-- The beacon period (R25). -/
abbrev beaconPeriod : Nat := ms
/-- The monitor period of a line unit (R88, R107). -/
abbrev monitorPeriod : Nat := ms
/-- Judged periods in one errored window (R110). -/
abbrev windowPeriods : Nat := 1000
/-- What a sender waits beyond the burst's duration for its VERDICT (R94). -/
abbrev verdictWait : Nat := 100 * ms
/-- What a receiver waits beyond the burst's expected end (R95). -/
abbrev windowSlack : Nat := 10 * ms
/-- The wait before a closing PROBE is repeated (R96). -/
abbrev closingWait : Nat := 100 * ms
/-- The echo deadline (R98). -/
abbrev echoWait : Nat := 100 * ms
/-- The qualification timer (R100). -/
abbrev qualifyLimit : Nat := 4000 * ms
/-- The re-rate timer (R113). -/
abbrev reRateWait : Nat := 50 * ms
/-- The wind-down limit (R118, R123). -/
abbrev windDownLimit : Nat := 20 * ms
/-- What is added to a far ceiling for the effective skip time (R153). -/
abbrev skipSlack : Nat := 5000
/-- The largest path delay (R99). -/
abbrev maxDelay : Nat := 16383
/-- Good PROBEs that make a burst clean (R95). -/
abbrev cleanBurst : Nat := 62
/-- Good TEST frames that make the own pass (R101). -/
abbrev passTests : Nat := 512
/-- Bad frames that fail the qualification (R101). -/
abbrev failTests : Nat := 5

/-- FREE VALUE (log 20, DESIGN CHOICE). What a burst VERDICT says whose result byte is neither 00h nor 01h:
R182 gives the meaning of 00h (failed) and 01h (clean) only. -/
opaque verdictOther : Byte → Bool

/-- FREE VALUE (log 21, DESIGN CHOICE). How long the burst window stays open after a good PROBE whose index is
above 63, from the index and the rate: R95 gives it for an index of 0 to 63 only. -/
opaque probeWindowBeyond : Nat → Nat → Nat

end Sys2Proof.Config
end

