-- ==== Sys2Proof/Machine/State.lean ====
section
/-! DEFINITION. The state of one PF412 station as plain data, block by block in the order of spec/00_scope.md's block
picture, and `State.reset`: the station right after a pin reset. INVENTORY.md lists every field with its rule. -/

namespace Sys2Proof.Machine

/-! ### Containers -/

/-- One value for each of the four pairs A to D. -/
structure Quad (α : Type) where
  a : α
  b : α
  c : α
  d : α
  deriving DecidableEq, Repr

/-- The same value for all four pairs. -/
def Quad.all {α : Type} (x : α) : Quad α := ⟨x, x, x, x⟩

/-- A station number, 0 to 5 (spec/00_scope.md, "Names and numbers"). -/
inductive StationNo where
  | n0 | n1 | n2 | n3 | n4 | n5
  deriving DecidableEq, Repr

/-- One value for each of the six station numbers. -/
structure PerStation (α : Type) where
  s0 : α
  s1 : α
  s2 : α
  s3 : α
  s4 : α
  s5 : α
  deriving DecidableEq, Repr

/-- The same value for all six station numbers. -/
def PerStation.all {α : Type} (x : α) : PerStation α := ⟨x, x, x, x, x, x⟩

/-- A timer of the manual that is running (with the microseconds left) or stopped. -/
inductive Timer where
  | stopped
  | running (left : Nat)
  deriving DecidableEq, Repr

/-! ### The bus port (spec/01) -/

/-- The six kinds of block a station sends, one pending slot each (R8). -/
inductive SlotKind where
  | rebase | skip | mark | claim | release | reply
  deriving DecidableEq, Repr

/-- A block in a pending slot, with its failed-attempt count, 0 to 3 (R8). -/
structure PendingBlock where
  block : BusBlock
  fails : Nat
  deriving DecidableEq, Repr

/-- The station's own block that has won arbitration and is on the line. `retry` is false once its owner has
withdrawn it, or the station has left ACTIVE, during the attempt (R8, R16). -/
structure OnLine where
  kind : SlotKind
  block : BusBlock
  fails : Nat
  retry : Bool
  deriving DecidableEq, Repr

/-- The length field and the marks of an OFFER body, when the body is long enough to hold them (R12, R38). -/
structure OfferHeader where
  length : Nat
  startMark : Bool
  endMark : Bool
  deriving DecidableEq, Repr

/-- What the offer latch holds: the header, up to 256 payload bytes, and the count of payload bytes the body
carried (R12, R180). -/
structure LatchedOffer where
  header : Option OfferHeader
  payload : List Byte
  carried : Nat
  deriving DecidableEq, Repr

/-- The bus port. A slot whose kind is on the line holds the contents held aside for that attempt's end (R8).
`receiveBuffer` holds the arbitration field of the block that is on the line (R6); `idleWait` is how many recessive
arbitration bit times make the bus idle for this station, 2 or 8 (R4); `dominant` is set from the recognition of a
bus reset to the release of the line (R15). -/
structure BusPort where
  rebase : Option PendingBlock
  skip : Option PendingBlock
  mark : Option PendingBlock
  claim : Option PendingBlock
  release : Option PendingBlock
  reply : Option PendingBlock
  onLine : Option OnLine
  receiveBuffer : Option ArbField
  idleWait : Nat
  dominant : Bool
  latch : Option LatchedOffer
  slotOpen : Bool
  deriving DecidableEq, Repr

/-! ### The group monitor (spec/02) -/

/-- The six station modes, in the order of R17's table. -/
inductive Mode where
  | waiting | reading | listening | active | spare | conflict
  deriving DecidableEq, Repr

/-- The end role of the start record (R20). -/
inductive Role where
  | farm | cabinet
  deriving DecidableEq, Repr

/-- The start record after clamping (R20, R21). Times are in the record's own units. -/
structure StartRecord where
  role : Role
  enabled : Quad Bool
  sendLimit : Quad Nat
  ceiling : Nat
  skipTime : Nat
  holdLimit : Nat
  maxRate : Nat
  minRate : Nat
  errorThreshold : Nat
  losHold : Nat
  holdOffBase : Nat
  detectExp : Nat
  trainingExp : Nat
  reRateExp : Nat
  deriving DecidableEq, Repr

/-- The built-in defaults (R20). -/
def StartRecord.defaults : StartRecord where
  role := .farm
  enabled := .all true
  sendLimit := .all 16
  ceiling := 60000
  skipTime := 80000
  holdLimit := 50
  maxRate := 256
  minRate := 8
  errorThreshold := 100
  losHold := 200
  holdOffBase := 100
  detectExp := 7
  trainingExp := 8
  reRateExp := 4

/-- The join values, NS and E (R22). -/
structure JoinValues where
  ns : Seq
  e : Seq
  deriving DecidableEq, Repr

/-- The join record: the set of heard numbers and the join values (R22). -/
structure JoinRecord where
  heard : PerStation Bool
  values : Option JoinValues
  deriving DecidableEq, Repr

/-- An empty join record (R22). -/
def JoinRecord.empty : JoinRecord := ⟨.all false, none⟩

/-- The listening period: none, held until the bus is released, or running (R22, R35). -/
inductive Listening where
  | none
  | held
  | running (left : Nat)
  deriving DecidableEq, Repr

/-- A horizon: OPEN, UNKNOWN, or BOUND with its sequence value (R26, R155). -/
inductive Horizon where
  | openEnded
  | unknown
  | bound (s : Seq)
  deriving DecidableEq, Repr

/-- One entry of the presence table (R27): `present` is the state, PRESENT or ABSENT. -/
structure PeerEntry where
  present : Bool
  heard : Nat
  missed : Nat
  heardNow : Bool
  horizon : Horizon
  capacity : Nat
  deriving DecidableEq, Repr

/-- The reset value of a presence entry (R34). -/
def PeerEntry.absent : PeerEntry := ⟨false, 0, 0, false, .unknown, 0⟩

/-- The group monitor. `readTimer` is the 2 ms limit of the start record read (R19). The presence table has a
place for each station number; the station's own place is never used (R27). -/
structure GroupMonitor where
  mode : Mode
  number : Option StationNo
  record : Option StartRecord
  defaultsInUse : Bool
  chainOut : Bool
  readTimer : Timer
  listening : Listening
  join : JoinRecord
  beacon : Timer
  table : PerStation PeerEntry
  deriving DecidableEq, Repr

/-! ### The send sequencer (spec/03, spec/04) -/

/-- The claim phase (R36). -/
inductive ClaimPhase where
  | idle | claiming | watching
  deriving DecidableEq, Repr

/-- The offer verdict (R36). -/
inductive OfferVerdict where
  | wellFormed | malformed
  deriving DecidableEq, Repr

/-- The candidate pair and its bid in microseconds (R36). -/
structure Candidate where
  pair : Pair
  bid : Nat
  deriving DecidableEq, Repr

/-- The bidding record of the offer in the latch (R36). -/
structure Bidding where
  active : Bool
  eligible : Quad Bool
  bids : Quad (Option Nat)
  candidate : Option Candidate
  deriving DecidableEq, Repr

/-- The send sequencer (R36). -/
structure Sequencer where
  ns : Option Seq
  phase : ClaimPhase
  verdict : Option OfferVerdict
  bidding : Option Bidding
  deriving DecidableEq, Repr

/-! ### The send pool's fragments and the line units (spec/05 to spec/07) -/

/-- A fragment in a slot of the send pool (R65). -/
structure Fragment where
  seq : Seq
  length : Nat
  startMark : Bool
  endMark : Bool
  payload : List Byte
  deriving DecidableEq, Repr

/-- The seven states of a line unit, in the order of R81's table. -/
inductive LineState where
  | off | quiet | detect | train | qualify | service | windDown
  deriving DecidableEq, Repr

/-- The hold-off timer (R84). -/
inductive HoldOff where
  | stopped
  | held
  | running (left : Nat)
  deriving DecidableEq, Repr

/-- The reason of a wind-down, in the order of R175's counters (R118, R119). -/
inductive WindDownReason where
  | errors | margin | reRateTimeout | farRequest
  deriving DecidableEq, Repr

/-- The reason of an exit from service, in the order of R176's table (R125). -/
inductive ExitReason where
  | farLeave | losLoss | windDownEnd | windDownLimit | conflict
  deriving DecidableEq, Repr

/-- The cause of a failure in DETECT or TRAIN, in the order of R176's table (R86). -/
inductive TrainCause where
  | detectTimeout | roleClash | rangeClash | rateFloor | echoTimeout | trainingTimeout | farLeave
  deriving DecidableEq, Repr

/-- The cause of a failure in QUALIFY, in the order of R176's table (R86). -/
inductive QualifyCause where
  | errors | timeLimit | farLeave
  deriving DecidableEq, Repr

/-- What a frame of the transmitter carries, by kind (R68, R89, R100, R182). -/
inductive TxContent where
  | frag (f : Fragment)
  | idle
  | wake (role : Role)
  | params (role : Role) (minRate maxRate ceiling : Nat) (yoursHeld : Bool)
  | probe (burst rate index : Nat)
  | closingProbe (rate : Nat)
  | verdict (burst good : Nat) (clean : Bool)
  | closingVerdict (rate : Nat)
  | echoAsk
  | echo (turnaround : BitVec 16)
  | test (index : Seq)
  | qualified
  | rateAsk (target : Nat)
  | rateSwitch (rate : Nat)
  | windDown (reason : WindDownReason)
  | leave
  deriving DecidableEq, Repr

/-- The frame on the pair: its content, its transmit frame count and the rate code it is sent at (R71, R73). -/
structure TxFrame where
  content : TxContent
  count : BitVec 24
  rate : Nat
  deriving DecidableEq, Repr

/-- The five control frame slots (R68): RATE-SWITCH and RATE-ASK hold their rate, WIND-DOWN its reason. -/
structure CtlSlots where
  leave : Bool
  windDown : Option WindDownReason
  rateSwitch : Option Nat
  qualified : Bool
  rateAsk : Option Nat
  deriving DecidableEq, Repr

/-- Five empty control frame slots. -/
def CtlSlots.empty : CtlSlots := ⟨false, none, none, false, none⟩

/-- The far PARAMS (R91): the far end role byte as it came, and the far min, max and C. -/
structure FarParams where
  role : Byte
  minRate : Nat
  maxRate : Nat
  ceiling : Nat
  deriving DecidableEq, Repr

/-- The phase of a rate search (R93). -/
inductive SearchPhase where
  | rising | halving
  deriving DecidableEq, Repr

/-- The sender's search record of its direction (R82, R93). -/
structure Search where
  phase : SearchPhase
  candidate : Nat
  good : Option Nat
  fail : Option Nat
  burst : Nat
  deriving DecidableEq, Repr

/-- The receiver's record of the burst it judges (R95): `judged` once its VERDICT has been placed. -/
structure BurstJudge where
  burst : Nat
  good : Nat
  judged : Bool
  deriving DecidableEq, Repr

/-- A VERDICT waiting to be sent: of a burst, or the closing one (R95, R96). -/
inductive VerdictMsg where
  | burst (burst good : Nat) (clean : Bool)
  | closing (rate : Nat)
  deriving DecidableEq, Repr

/-- Where a line unit stands in TRAIN (R89 to R99): the PARAMS phase; sender of its direction's bursts; sender
of the closing PROBE, unacknowledged; receiver of the far direction; the ECHO phase. -/
inductive TrainPhase where
  | params | sending | closing | receiving | echo
  deriving DecidableEq, Repr

/-- The working record of TRAIN (R89 to R99). `paramsFill` says that the fill is PARAMS and not WAKE (R91);
`evidence` that the far end is known to hold this end's PARAMS (R91); `lo` and `hi` are the search range (R92);
`probeNext` is the index of the next PROBE of the running burst (R94); `echoReply` is t2 of an ECHO-ASK whose ECHO
is pending (R98). -/
structure TrainRecord where
  phase : TrainPhase
  paramsFill : Bool
  evidence : Bool
  lo : Nat
  hi : Nat
  search : Option Search
  probeNext : Option Nat
  deadline : Timer
  judge : Option BurstJudge
  window : Timer
  verdict : Option VerdictMsg
  closingPending : Bool
  closingWait : Timer
  echoAskPending : Bool
  t1 : Option Stamp
  echoDeadline : Timer
  echoReply : Option Stamp
  echoSent : Bool
  measured : Bool
  deriving DecidableEq, Repr

/-- The working record at the start of TRAIN (R90); outside TRAIN nothing in it is used. -/
def TrainRecord.start : TrainRecord where
  phase := .params
  paramsFill := true
  evidence := false
  lo := 0
  hi := 0
  search := none
  probeNext := none
  deadline := .stopped
  judge := none
  window := .stopped
  verdict := none
  closingPending := false
  closingWait := .stopped
  echoAskPending := false
  t1 := none
  echoDeadline := .stopped
  echoReply := none
  echoSent := false
  measured := false

/-- The qualification record (R82, R101) and the index of the next TEST frame (R100). -/
structure QualifyRecord where
  good : Nat
  bad : Nat
  ownPass : Bool
  farQualified : Bool
  testIndex : Seq
  deriving DecidableEq, Repr

/-- The qualification record at the entry to QUALIFY (R100). -/
def QualifyRecord.start : QualifyRecord := ⟨0, 0, false, false, 0⟩

/-- The wind-down record (R106, R118). `deferred` holds the reason of an exit that waits for the end of the own
LEAVE on the pair (R123). -/
structure WindDownRecord where
  reason : WindDownReason
  timer : Timer
  leaveStarted : Bool
  leaveEnded : Bool
  farLeave : Bool
  deferred : Option ExitReason
  deriving DecidableEq, Repr

/-- The items of R106 that are discarded at the exit. `good`, `bad` and `errored` are the marks of the current
monitor period; `request` says that a re-rate request is outstanding. -/
structure ServiceRecord where
  good : Bool
  bad : Bool
  errored : Bool
  darkRun : Nat
  nonDarkRun : Nat
  losHold : Timer
  windowPeriods : Nat
  windowErrored : Nat
  reRateCheck : Timer
  downStreak : Nat
  upStreak : Nat
  request : Bool
  reRateTimer : Timer
  pendingTarget : Option Nat
  windDown : Option WindDownRecord
  deriving DecidableEq, Repr

/-- The service record with nothing marked, run, outstanding or pending (R106). -/
def ServiceRecord.clear : ServiceRecord where
  good := false
  bad := false
  errored := false
  darkRun := 0
  nonDarkRun := 0
  losHold := .stopped
  windowPeriods := 0
  windowErrored := 0
  reRateCheck := .stopped
  downStreak := 0
  upStreak := 0
  request := false
  reRateTimer := .stopped
  pendingTarget := none
  windDown := none

/-- A line unit: the bring-up state of R82, the service state of R106, the transmitter and its queue (R66 to R73)
and the receiving side's expected count and last-received sequence (R74, R129). `lit` marks the current monitor
period in DETECT (R88); the service clock runs with the microseconds left to 60 s (R85). -/
structure LineUnit where
  state : LineState
  k : Nat
  holdOff : HoldOff
  monitor : Timer
  lit : Bool
  litCount : Nat
  unlitCount : Nat
  detect : Timer
  training : Timer
  qualification : Timer
  farParams : Option FarParams
  train : TrainRecord
  trainedSend : Nat
  trainedRecv : Nat
  delay : Nat
  farCeiling : Nat
  qualify : QualifyRecord
  serviceClock : Timer
  los : Bool
  sendRate : Nat
  recvRate : Nat
  margin : Nat
  svc : ServiceRecord
  queue : List Fragment
  ctl : CtlSlots
  tx : Option TxFrame
  txCount : BitVec 24
  rxExpected : Option (BitVec 24)
  lastReceived : Option Seq
  deriving DecidableEq, Repr

/-- A line unit after either reset, in held QUIET (R79, R104, R105). -/
def LineUnit.reset : LineUnit where
  state := .quiet
  k := 0
  holdOff := .held
  monitor := .stopped
  lit := false
  litCount := 0
  unlitCount := 0
  detect := .stopped
  training := .stopped
  qualification := .stopped
  farParams := none
  train := .start
  trainedSend := 0
  trainedRecv := 0
  delay := 0
  farCeiling := 0
  qualify := .start
  serviceClock := .stopped
  los := false
  sendRate := 0
  recvRate := 0
  margin := 0
  svc := .clear
  queue := []
  ctl := .empty
  tx := none
  txCount := 0
  rxExpected := none
  lastReceived := none

/-! ### The hold queue and the release controller (spec/08, spec/09) -/

/-- An entry of the hold queue (R127). -/
structure HoldEntry where
  seq : Seq
  pair : Pair
  length : Nat
  startMark : Bool
  endMark : Bool
  stamp : Stamp
  payload : List Byte
  deriving DecidableEq, Repr

/-- The hold queue: its entries, head first, and the run-away counter (R127, R138). -/
structure HoldQueue where
  entries : List HoldEntry
  runaway : Nat
  deriving DecidableEq, Repr

/-- The skip timer with its remaining time (R143). -/
inductive SkipTimer where
  | stopped
  | running (left : Nat)
  | frozen (left : Nat)
  | expired
  deriving DecidableEq, Repr

/-- The release controller (R143). -/
structure ReleaseController where
  e : Option Seq
  broken : Bool
  hold : Bool
  holdTimer : Timer
  skipTimer : SkipTimer
  deriving DecidableEq, Repr

/-! ### The status unit (spec/10) -/

/-- A fragment or frame counter: 32 bits, wrapping (R173). -/
abbrev WrapCount := BitVec 32
/-- A byte counter: 40 bits, wrapping (R173). -/
abbrev ByteCount := BitVec 40
/-- An error or event counter: 16 bits, saturating (R173). -/
abbrev SatCount := BitVec 16

/-- The station counters, groups 0 to 3 (R174). -/
structure StationCounters where
  badBlocks : SatCount
  sendAborts : SatCount
  droppedBlocks : SatCount
  offersSeen : WrapCount
  malformed : SatCount
  unclaimed : WrapCount
  claimsWon : WrapCount
  claimsLost : WrapCount
  claimedLost : SatCount
  nsAdoptions : SatCount
  accepted : WrapCount
  duplicates : SatCount
  stale : SatCount
  farAhead : SatCount
  overflows : SatCount
  outOfState : SatCount
  releasesSent : WrapCount
  skipsSent : SatCount
  skipsObserved : SatCount
  rebasesSent : SatCount
  rebasesObserved : SatCount
  eAdoptions : SatCount
  holdOverruns : SatCount
  deriving DecidableEq, Repr

/-- The station counters at 0. -/
def StationCounters.zero : StationCounters :=
  ⟨0, 0, 0, 0, 0, 0, 0, 0, 0, 0, 0, 0, 0, 0, 0, 0, 0, 0, 0, 0, 0, 0, 0⟩

/-- The counters of a pair (R175). -/
structure PairCounters where
  fragsSent : WrapCount
  bytesSent : ByteCount
  fragsReceived : WrapCount
  bytesReceived : ByteCount
  badFrames : SatCount
  lostFrames : SatCount
  idleFrames : WrapCount
  erroredPeriods : SatCount
  serviceEntries : SatCount
  downRates : SatCount
  upRates : SatCount
  windDownErrors : SatCount
  windDownMargin : SatCount
  windDownReRate : SatCount
  windDownFar : SatCount
  losLosses : SatCount
  leavesReceived : SatCount
  trainingFailures : SatCount
  qualificationFailures : SatCount
  discarded : WrapCount
  deriving DecidableEq, Repr

/-- The counters of a pair at 0. -/
def PairCounters.zero : PairCounters :=
  ⟨0, 0, 0, 0, 0, 0, 0, 0, 0, 0, 0, 0, 0, 0, 0, 0, 0, 0, 0, 0⟩

/-- One set of every counter of the station and of its pairs (R166). -/
structure CounterSet where
  station : StationCounters
  pairs : Quad PairCounters
  deriving DecidableEq, Repr

/-- Every counter at 0. -/
def CounterSet.zero : CounterSet := ⟨.zero, .all .zero⟩

/-- The kinds of event, in the order of R176's table. -/
inductive EventKind where
  | serviceEntry | leftService | reRateDone | losOn | losOff | trainingFail | qualificationFail
  | peerPresent | peerAbsent
  deriving DecidableEq, Repr

/-- An entry of the pair event ring (R176). -/
structure RingEvent where
  kind : EventKind
  subject : Nat
  value : Nat
  stamp : Stamp
  deriving DecidableEq, Repr

/-- The status unit (R166). The ring is oldest first. -/
structure StatusUnit where
  live : CounterSet
  snap : CounterSet
  snapTag : Option Byte
  snapStamp : Option Stamp
  ring : List RingEvent
  frozen : Bool
  missed : SatCount
  deriving DecidableEq, Repr

/-! ### The station -/

/-- The state of one PF412 station, and the queue of the commands that wait for it, first in, first out. -/
structure State where
  port : BusPort
  group : GroupMonitor
  sequencer : Sequencer
  lines : Quad LineUnit
  holdQueue : HoldQueue
  release : ReleaseController
  status : StatusUnit
  timeBase : Stamp
  pending : List Instr
  deriving DecidableEq, Repr

/-- Why the machine stops. No command of the PF412 does: every rule of the manual gives its command an effect, if
only to be ignored. The type has no constructor. -/
inductive Fault where
  deriving DecidableEq, Repr

/-- Why a command has no meaning. -/
inductive Refusal where
  /-- Raised by `exec` for a command that has no meaning in the model yet. Safe: nothing is claimed of it. No arm
  of `exec` raises it. -/
  | notModelled (mnemonic : String)
  deriving DecidableEq, Repr

/-- The bus port after either reset (R16). -/
def BusPort.reset : BusPort where
  rebase := none
  skip := none
  mark := none
  claim := none
  release := none
  reply := none
  onLine := none
  receiveBuffer := none
  idleWait := 8
  dominant := false
  latch := none
  slotOpen := false

/-- The group monitor after a pin reset (R34). -/
def GroupMonitor.reset : GroupMonitor where
  mode := .waiting
  number := none
  record := none
  defaultsInUse := false
  chainOut := false
  readTimer := .stopped
  listening := .none
  join := .empty
  beacon := .stopped
  table := .all .absent

/-- The send sequencer after a pin reset (R52). -/
def Sequencer.reset : Sequencer := ⟨none, .idle, none, none⟩

/-- The hold queue after either reset (R141, R142). -/
def HoldQueue.reset : HoldQueue := ⟨[], 0⟩

/-- The release controller after either reset (R143, R164). -/
def ReleaseController.reset : ReleaseController := ⟨none, false, false, .stopped, .stopped⟩

/-- The status unit after either reset (R166, R178). -/
def StatusUnit.reset : StatusUnit := ⟨.zero, .zero, none, none, [], false, 0⟩

/-- The station right after a pin reset, with no command waiting (R16, R34, R52, R79, R104, R141, R164, R178). -/
def State.reset : State where
  port := .reset
  group := .reset
  sequencer := .reset
  lines := .all .reset
  holdQueue := .reset
  release := .reset
  status := .reset
  timeBase := 0
  pending := []

end Sys2Proof.Machine
end

