-- ==== Sys2Proof/Machine/Operands.lean ====
section
/-! DEFINITION. The operand forms: byte order, the fields of block bodies and of pair frames (R180 to R182), the
numbers of pairs and stations, and the codes in which modes, states, reasons and kinds travel (R181). -/

namespace Sys2Proof.Machine

/-! ### Pairs and stations -/

/-- Every pair, in the order of its index. -/
def allPairs : List Pair := [.a, .b, .c, .d]

/-- The pair index, 0 to 3. -/
def pairIndex : Pair → Nat
  | .a => 0
  | .b => 1
  | .c => 2
  | .d => 3

/-- The pair index as it travels in an arbitration field (R3). -/
def pairBits (p : Pair) : BitVec 2 := BitVec.ofNat 2 (pairIndex p)

/-- The pair a two-bit pair index names (R3). -/
def pairOfBits (b : BitVec 2) : Pair :=
  match b.toNat with
  | 0 => .a
  | 1 => .b
  | 2 => .c
  | _ => .d

/-- The value of pair `p`. -/
def quadGet {α : Type} (q : Quad α) : Pair → α
  | .a => q.a
  | .b => q.b
  | .c => q.c
  | .d => q.d

/-- `q` with the value of pair `p` replaced. -/
def quadSet {α : Type} (q : Quad α) (p : Pair) (x : α) : Quad α :=
  match p with
  | .a => { q with a := x }
  | .b => { q with b := x }
  | .c => { q with c := x }
  | .d => { q with d := x }

/-- A quad with a value computed for each pair. -/
def quadOf {α : Type} (f : Pair → α) : Quad α := ⟨f .a, f .b, f .c, f .d⟩

/-- Every station number, lowest first. -/
def allStations : List StationNo := [.n0, .n1, .n2, .n3, .n4, .n5]

/-- The station number as a number, 0 to 5. -/
def stationIndex : StationNo → Nat
  | .n0 => 0
  | .n1 => 1
  | .n2 => 2
  | .n3 => 3
  | .n4 => 4
  | .n5 => 5

/-- The bus address of a station (R3). -/
def stationAddress (k : StationNo) : Address := BitVec.ofNat 3 (stationIndex k)

/-- The station an address names; none for 6 (all stations) and 7 (the bridge) (R3). -/
def stationOfAddress (x : Address) : Option StationNo :=
  match x.toNat with
  | 0 => some .n0
  | 1 => some .n1
  | 2 => some .n2
  | 3 => some .n3
  | 4 => some .n4
  | 5 => some .n5
  | _ => none

/-- The bus address of the frame bridge (R3). -/
def bridgeAddress : Address := 7

/-- The address that exists only as a QUERY destination (R3). -/
def allStationsAddress : Address := 6

/-- The value of station number `k`. -/
def stationGet {α : Type} (t : PerStation α) : StationNo → α
  | .n0 => t.s0
  | .n1 => t.s1
  | .n2 => t.s2
  | .n3 => t.s3
  | .n4 => t.s4
  | .n5 => t.s5

/-- `t` with the value of station number `k` replaced. -/
def stationSet {α : Type} (t : PerStation α) (k : StationNo) (x : α) : PerStation α :=
  match k with
  | .n0 => { t with s0 := x }
  | .n1 => { t with s1 := x }
  | .n2 => { t with s2 := x }
  | .n3 => { t with s3 := x }
  | .n4 => { t with s4 := x }
  | .n5 => { t with s5 := x }

/-- A value computed for each station number. -/
def stationsOf {α : Type} (f : StationNo → α) : PerStation α :=
  ⟨f .n0, f .n1, f .n2, f .n3, f .n4, f .n5⟩

/-! ### Byte order: most significant byte first (spec/00_scope.md, "Names and numbers") -/

/-- One byte holding the low eight bits of a number. -/
def byte1 (n : Nat) : List Byte := [BitVec.ofNat 8 n]
/-- Two bytes, most significant first. -/
def byte2 (n : Nat) : List Byte := [BitVec.ofNat 8 (n / 256), BitVec.ofNat 8 n]
/-- Three bytes, most significant first. -/
def byte3 (n : Nat) : List Byte := BitVec.ofNat 8 (n / 65536) :: byte2 n
/-- Four bytes, most significant first. -/
def byte4 (n : Nat) : List Byte := BitVec.ofNat 8 (n / 16777216) :: byte3 n
/-- Five bytes, most significant first. -/
def byte5 (n : Nat) : List Byte := BitVec.ofNat 8 (n / 4294967296) :: byte4 n

/-- Byte `i` of a body as a number. -/
def bodyByte (body : List Byte) (i : Nat) : Nat := (body.getD i 0).toNat
/-- The two-byte field at byte `i` of a body. -/
def bodyWord (body : List Byte) (i : Nat) : Nat := bodyByte body i * 256 + bodyByte body (i + 1)
/-- The three-byte field at byte `i` of a body. -/
def bodyTriple (body : List Byte) (i : Nat) : Nat := bodyByte body i * 65536 + bodyWord body (i + 1)
/-- The sequence number in the two-byte field at byte `i`: the upper two bits are ignored (spec/11, opening). -/
def bodySeq (body : List Byte) (i : Nat) : Seq := BitVec.ofNat 14 (bodyWord body i)

/-- A rate field: 0 is taken as 1, and one above 256 as 256 (R182). -/
def rateField (n : Nat) : Nat := if n = 0 then 1 else min n 256

/-- The quotient rounded up (R58). -/
def ceilDiv (n d : Nat) : Nat := (n + d - 1) / d

/-- `n` brought into `lo` to `hi`, to the nearer bound (R20). -/
def clampNat (lo hi n : Nat) : Nat := max lo (min hi n)

/-! ### Bus blocks -/

/-- The sequence in the low 14 bits of a value field (R3). -/
def valueSeq (v : BitVec 20) : Seq := v.setWidth 14

/-- The value field that carries a sequence, upper six bits zero (R3). -/
def seqValue (s : Seq) : BitVec 20 := s.setWidth 20

/-- The kind code of a station's block (R3). -/
def slotCode : SlotKind → BitVec 3
  | .rebase => 0
  | .skip => 1
  | .mark => 3
  | .claim => 4
  | .release => 5
  | .reply => 7

/-- The 28-bit arbitration field: kind code, value, sender address, pair index (R1). -/
def arbField (code : BitVec 3) (blk : BusBlock) : ArbField :=
  code ++ (blk.value ++ (blk.sender ++ blk.pair))

/-- What the offer latch takes from an OFFER body: bytes 0 and 1 the length, byte 2 the marks, then the payload,
of which the latch keeps the first 256 bytes and the count of all (R12, R180). -/
def offerOfBody (body : List Byte) : LatchedOffer where
  header :=
    if body.length < 3 then none
    else some ⟨bodyWord body 0, (body.getD 2 0).getLsbD 7, (body.getD 2 0).getLsbD 6⟩
  payload := (body.drop 3).take 256
  carried := (body.drop 3).length

/-- R38: WELL-FORMED when the body holds the length field and the marks, L lies in 16 to 256, and the payload the
body carries numbers L bytes. -/
def offerVerdict (o : LatchedOffer) : OfferVerdict :=
  match o.header with
  | none => .malformed
  | some h => if 16 ≤ h.length ∧ h.length ≤ 256 ∧ o.carried = h.length then .wellFormed else .malformed

/-- R44: a CLAIM is admitted unless it comes from address 7 or its body is not four bytes; address 6 has been
discarded before (R3). -/
def claimAdmitted (blk : BusBlock) : Bool :=
  blk.sender != bridgeAddress && blk.sender != allStationsAddress && blk.body.length == 4

/-- R146, R180: a RELEASE from a station whose body is 3 + L bytes for the L of its length field. -/
def releaseAdmitted (blk : BusBlock) : Bool :=
  (stationOfAddress blk.sender).isSome && decide (3 ≤ blk.body.length) &&
    blk.body.length == 3 + bodyWord blk.body 0

/-- R147, R148: a SKIP or a REBASE from a station. -/
def stationSent (blk : BusBlock) : Bool := (stationOfAddress blk.sender).isSome

/-- The end mark of a RELEASE body (R180). -/
def releaseEndMark (blk : BusBlock) : Bool := (blk.body.getD 2 0).getLsbD 6
/-- The broken flag of a RELEASE body (R180). -/
def releaseBroken (blk : BusBlock) : Bool := (blk.body.getD 2 0).getLsbD 5

/-- The state a HOLD names (R159, R180): `some true` on, `some false` off, none when it names neither or does not
come from the bridge. -/
def holdNamed (blk : BusBlock) : Option Bool :=
  if blk.sender != bridgeAddress then none
  else
    match blk.body.head? with
    | some b => if b = 1 then some true else if b = 0 then some false else none
    | none => none

/-- The end role byte: 01h FARM, 02h CABINET (R180). -/
def roleByte : Role → Byte
  | .farm => 1
  | .cabinet => 2

/-- The horizon kind byte: 01h OPEN, 02h BOUND, 03h UNKNOWN (R180). -/
def horizonKindByte : Horizon → Byte
  | .openEnded => 1
  | .bound _ => 2
  | .unknown => 3

/-- The horizon value, sent 0 unless the kind is BOUND (R180, of a MARK). R181 does not say what a STATION REPLY sends for an
OPEN or UNKNOWN horizon: the same 0 (DEDUCED, log 39). -/
def horizonValue : Horizon → Nat
  | .bound s => s.toNat
  | _ => 0

/-- A horizon in three bytes: the kind as in a MARK, then the value, 0 unless BOUND there too (R181; DEDUCED, log 39). -/
def horizonBytes (h : Horizon) : List Byte := horizonKindByte h :: byte2 (horizonValue h)

/-- The horizon of a MARK body: a kind byte that names none of the three is taken as UNKNOWN (R27, R180). -/
def horizonOfBody (body : List Byte) : Horizon :=
  if bodyByte body 5 = 1 then .openEnded
  else if bodyByte body 5 = 2 then .bound (bodySeq body 6)
  else .unknown

/-- The send capacity of a MARK body, above 1024 taken as 1024 (R27). -/
def markCapacity (body : List Byte) : Nat := min 1024 (bodyWord body 9)

/-- R27, R180: the MARKs that have an effect: from a station, with an 11-byte body and the own end role. -/
def markAdmitted (role : Role) (blk : BusBlock) : Bool :=
  (stationOfAddress blk.sender).isSome && blk.body.length == 11 && blk.body.getD 0 0 == roleByte role

/-! ### Codes of REPLY contents, numbered in the order of their tables (R181) -/

/-- One byte for a flag: 01h when set, 00h otherwise (R181). -/
def flagByte (b : Bool) : Byte := if b then 1 else 0

/-- The modes, in the order of R17's table. -/
def modeCode : Mode → Nat
  | .waiting => 0
  | .reading => 1
  | .listening => 2
  | .active => 3
  | .spare => 4
  | .conflict => 5

/-- The line unit states, in the order of R81's table. -/
def lineStateCode : LineState → Nat
  | .off => 0
  | .quiet => 1
  | .detect => 2
  | .train => 3
  | .qualify => 4
  | .service => 5
  | .windDown => 6

/-- The event kinds, in the order of R176's table. -/
def eventCode : EventKind → Nat
  | .serviceEntry => 0
  | .leftService => 1
  | .reRateDone => 2
  | .losOn => 3
  | .losOff => 4
  | .trainingFail => 5
  | .qualificationFail => 6
  | .peerPresent => 7
  | .peerAbsent => 8

/-- The exit reasons, in the order of R176's table. -/
def exitCode : ExitReason → Nat
  | .farLeave => 0
  | .losLoss => 1
  | .windDownEnd => 2
  | .windDownLimit => 3
  | .conflict => 4

/-- The training causes, in the order of R176's table. -/
def trainCauseCode : TrainCause → Nat
  | .detectTimeout => 0
  | .roleClash => 1
  | .rangeClash => 2
  | .rateFloor => 3
  | .echoTimeout => 4
  | .trainingTimeout => 5
  | .farLeave => 6

/-- The qualification causes, in the order of R176's table. -/
def qualifyCauseCode : QualifyCause → Nat
  | .errors => 0
  | .timeLimit => 1
  | .farLeave => 2

/-- The reason byte of a WIND-DOWN frame (R182); FAR REQUEST is never sent, since R119 places no frame. -/
def windDownCode : WindDownReason → Nat
  | .errors => 0
  | .margin => 1
  | .reRateTimeout => 2
  | .farRequest => 3

/-! ### Pair frames (R182) -/

/-- The kinds of pair frame. -/
inductive FrameKind where
  | frag | idle | wake | params | probe | verdict | echoAsk | echo | test | qualified
  | rateAsk | rateSwitch | windDown | leave
  deriving DecidableEq, Repr

/-- The kind code of a pair frame (R182). -/
def frameCode : FrameKind → Byte
  | .frag => 0x01
  | .idle => 0x02
  | .wake => 0x10
  | .params => 0x11
  | .probe => 0x12
  | .verdict => 0x13
  | .echoAsk => 0x14
  | .echo => 0x15
  | .test => 0x20
  | .qualified => 0x21
  | .rateAsk => 0x30
  | .rateSwitch => 0x31
  | .windDown => 0x32
  | .leave => 0x33

/-- Every kind of pair frame, in the order of R182's table. -/
def allFrameKinds : List FrameKind :=
  [.frag, .idle, .wake, .params, .probe, .verdict, .echoAsk, .echo, .test, .qualified, .rateAsk, .rateSwitch,
    .windDown, .leave]

/-- The kind a kind code names, if any (R182). -/
def frameKindOf (code : Byte) : Option FrameKind := allFrameKinds.find? (fun k => frameCode k == code)

/-- The body bytes of a kind: none for a FRAG, whose body is as long as its length field says (R182). -/
def frameBody : FrameKind → Option Nat
  | .frag => none
  | .params => some 8
  | .probe => some 54
  | .test => some 118
  | _ => some 2

/-- The body length the length field gives: the field plus one (R128, R182). -/
def frameLength (f : Frame) : Nat := f.lenLess1.toNat + 1

/-- R128, R182: whether the length field and the body agree with the kind's size. A FRAG carries 16 to 256 bytes,
as its length field says. -/
def frameSizeOk (k : FrameKind) (f : Frame) : Bool :=
  match frameBody k with
  | none => decide (16 ≤ frameLength f) && f.body.length == frameLength f
  | some n => frameLength f == n && f.body.length == n

/-- The sequence in the low 14 bits of the sequence field (R127, R128). -/
def frameSeq (f : Frame) : Seq := f.seq.setWidth 14

/-- The start mark of a FRAG (R182). -/
def frameStartMark (f : Frame) : Bool := f.flags.getLsbD 7
/-- The end mark of a FRAG (R182). -/
def frameEndMark (f : Frame) : Bool := f.flags.getLsbD 6
/-- The closing flag of a PROBE or VERDICT (R182). -/
def frameClosing (f : Frame) : Bool := f.flags.getLsbD 5
/-- The yours-held flag of a PARAMS (R182). -/
def frameYoursHeld (f : Frame) : Bool := f.flags.getLsbD 4

/-- The far PARAMS a PARAMS frame carries (R91, R182). -/
def paramsOf (f : Frame) : FarParams :=
  ⟨f.body.getD 0 0, rateField (bodyWord f.body 1), rateField (bodyWord f.body 3), bodyTriple f.body 5⟩

/-- The result of a burst VERDICT: 01h clean, 00h failed; R182 gives no meaning to another byte (free value). -/
def verdictClean (f : Frame) : Bool :=
  let b := f.body.getD 1 0
  if b = 1 then true else if b = 0 then false else Config.verdictOther b

end Sys2Proof.Machine
end

