-- ==== Sys2Proof/Machine/Flags.lean ====
section
/-! DEFINITION. The status unit's side of every event: the three kinds of counter (R173), the counters of the
station and of its pairs (R174, R175), and the pair event ring (R176, R177). -/

namespace Sys2Proof.Machine

/-- A saturating counter raised by `n`: it stops at 65,535 (R173). -/
def satAdd (c : SatCount) (n : Nat) : SatCount := BitVec.ofNat 16 (min 65535 (c.toNat + n))

/-- A saturating counter raised by one (R173). -/
def satInc (c : SatCount) : SatCount := satAdd c 1

/-- A number raised by one that stays at 15 (R28, R29). -/
def inc15 (n : Nat) : Nat := min 15 (n + 1)

/-- The state with the live station counters changed by `f` (R166, R174). -/
def countStation (f : StationCounters → StationCounters) (s : State) : State :=
  { s with status.live.station := f s.status.live.station }

/-- The state with the live counters of pair `p` changed by `f` (R166, R175). -/
def countPair (p : Pair) (f : PairCounters → PairCounters) (s : State) : State :=
  { s with status.live.pairs := quadSet s.status.live.pairs p (f (quadGet s.status.live.pairs p)) }

/-- R176, R177: an event handed to the status unit. THAWED, it is stored at the newest end with the time base as
its stamp, and a ring of 16 entries loses its oldest; FROZEN, it is counted as missed. -/
def recordEvent (kind : EventKind) (subject value : Nat) (s : State) : State :=
  if s.status.frozen then
    { s with status.missed := satInc s.status.missed }
  else
    { s with
      status.ring :=
        (if s.status.ring.length < Config.ringEntries then s.status.ring else s.status.ring.drop 1) ++
          [⟨kind, subject, value, s.timeBase⟩] }

end Sys2Proof.Machine
end

