-- ==== Sys2Proof/Machine/Record.lean ====
section
/-! DEFINITION. The start record: its sum, its bit layout and its clamping (R19, R20, R21, R184). -/

namespace Sys2Proof.Machine

/-- Byte `i` of the record, byte 0 in the highest bits (R184). -/
def recordByte (r : BitVec 128) (i : Nat) : Nat := (r >>> (120 - 8 * i)).toNat % 256

/-- The sum of the sixteen record bytes modulo 65536 (R19). -/
def recordSum (r : BitVec 128) : Nat := ((List.range 16).map (recordByte r)).sum % 65536

/-- R19: the record is good when the sum word equals the sum of its bytes. -/
def recordGood (r : BitVec 128) (sum : BitVec 16) : Bool := sum.toNat == recordSum r

/-- The field of `width` bits that begins at bit `first` of the record, most significant bit first (R184). -/
def recordField (r : BitVec 128) (first width : Nat) : Nat := (r >>> (128 - first - width)).toNat % 2 ^ width

/-- The code of pair `p` in bits 2 to 13 (R184). -/
def recordPairCode (r : BitVec 128) (p : Pair) : Nat := recordField r (2 + 3 * pairIndex p) 3

/-- R20, R184: 1 to 4 give 8, 16, 24 and 32 slots; a code that names none of the four is read as 16. -/
def sendLimitOfCode (code : Nat) : Nat :=
  match code with
  | 1 => 8
  | 2 => 16
  | 3 => 24
  | 4 => 32
  | _ => 16

/-- R21: the detect timeout exponent raised until 2^n exceeds the hold-off base; `fuel` bounds the raises. -/
def raiseDetect (base : Nat) : Nat → Nat → Nat
  | 0, n => n
  | fuel + 1, n => if 2 ^ n > base then n else raiseDetect base fuel (n + 1)

/-- The start record a good record gives, each field brought into its range (R20, R21, R184). -/
def clampRecord (r : BitVec 128) : StartRecord :=
  let maxRate := clampNat 1 256 (recordField r 90 9)
  let base := clampNat 50 1000 (recordField r 118 10)
  { role := if recordField r 0 2 = 2 then .cabinet else .farm
    enabled := quadOf (fun p => recordPairCode r p != 0)
    sendLimit := quadOf (fun p => sendLimitOfCode (recordPairCode r p))
    ceiling := clampNat 1000 1000000 (recordField r 20 20)
    skipTime := clampNat 2000 2000000 (recordField r 43 21)
    holdLimit := clampNat 1 1000 (recordField r 80 10)
    maxRate := maxRate
    minRate := clampNat 1 maxRate (recordField r 99 9)
    errorThreshold := clampNat 1 1000 (recordField r 108 10)
    losHold := clampNat 10 2000 (recordField r 69 11)
    holdOffBase := base
    detectExp := raiseDetect base 10 (min 10 (recordField r 16 4))
    trainingExp := min 10 (recordField r 64 4)
    reRateExp := min 6 (recordField r 40 3) }

/-- The start record in use. Before one is stored no block of the station reads it (R20); the defaults stand in
its place only where no command can come (log 17). -/
def config (s : State) : StartRecord := s.group.record.getD .defaults

end Sys2Proof.Machine
end

