-- ==== Sys2Proof/Machine/Ops.lean ====
section
/-! DEFINITION. The operations shared by the commands, first part: a line unit of the state, the bus port's pending
slots (R8), the end of a block on the line, the close of a claim slot (R42, R46, R47), and the release controller
with the hold queue: purge, horizon, skip timer, move of E, RELEASE and SKIP placed (R136, R145, R150 to R157). -/

namespace Sys2Proof.Machine

/-! ### The parts of the state -/

/-- The line unit of pair `p`. -/
def line (s : State) (p : Pair) : LineUnit := quadGet s.lines p

/-- The state with the line unit of pair `p` replaced. -/
def setLine (p : Pair) (u : LineUnit) (s : State) : State := { s with lines := quadSet s.lines p u }

/-- The state with the line unit of pair `p` changed by `f`. -/
def modLine (p : Pair) (f : LineUnit → LineUnit) (s : State) : State := setLine p (f (line s p)) s

/-- Whether the station is ACTIVE. -/
def isActive (s : State) : Bool := s.group.mode == .active

/-- Whether a timer runs. -/
def isRunning : Timer → Bool
  | .stopped => false
  | .running _ => true

/-- Whether a running timer's time is up. An expiry command acts on a timer that is due and on no other, so one that is
taken after its timer has been loaded again, or stopped, has no effect (R163, log 2). -/
def isDue : Timer → Bool
  | .running 0 => true
  | _ => false

/-- SERVICE or WIND-DOWN. -/
def inService (u : LineUnit) : Bool := u.state == .service || u.state == .windDown

/-- R55: the backlog B of a pair: the payload length plus 10 of every queued fragment. -/
def backlog (u : LineUnit) : Nat := (u.queue.map (fun f => f.length + 10)).sum

/-- R65: the slots of the send pool in use: those of the four send queues together. -/
def poolUsed (s : State) : Nat := (allPairs.map (fun p => (line s p).queue.length)).sum

/-! ### Pending slots (R8) -/

/-- The pending slot of a kind. -/
def slotOf (b : BusPort) : SlotKind → Option PendingBlock
  | .rebase => b.rebase
  | .skip => b.skip
  | .mark => b.mark
  | .claim => b.claim
  | .release => b.release
  | .reply => b.reply

/-- The bus port with the pending slot of a kind replaced. -/
def setSlot (b : BusPort) (k : SlotKind) (x : Option PendingBlock) : BusPort :=
  match k with
  | .rebase => { b with rebase := x }
  | .skip => { b with skip := x }
  | .mark => { b with mark := x }
  | .claim => { b with claim := x }
  | .release => { b with release := x }
  | .reply => { b with reply := x }

/-- Whether the station's own block of kind `k` is on the line. -/
def ownOnLine (b : BusPort) (k : SlotKind) : Bool :=
  match b.onLine with
  | some o => o.kind == k
  | none => false

/-- R8, placing and replacing: the block becomes pending with a count of 0. While a block of the kind is on the
line, the slot is where the new contents are held aside. -/
def placeBlock (k : SlotKind) (blk : BusBlock) (s : State) : State :=
  { s with port := setSlot s.port k (some ⟨blk, 0⟩) }

/-- R8, withdrawing: the slot empties, and a block of the kind on the line is not retried if its attempt fails. -/
def withdrawBlock (k : SlotKind) (s : State) : State :=
  { s with
    port :=
      { setSlot s.port k none with
        onLine := s.port.onLine.map (fun o => if o.kind = k then { o with retry := false } else o) } }

/-- R16, leaving ACTIVE: all six slots empty, and a block on the line is not retried. -/
def emptySlots (s : State) : State :=
  { s with
    port :=
      { s.port with
        rebase := none
        skip := none
        mark := none
        claim := none
        release := none
        reply := none
        onLine := s.port.onLine.map (fun o => { o with retry := false }) } }

/-! ### The end of a block, and the close of a claim slot -/

/-- The end of a block that the station followed: the receive buffer empties (R6), and two recessive arbitration
bit times make the bus idle (R4). -/
def blockEnded (s : State) : State :=
  { s with port := { s.port with receiveBuffer := none, idleWait := 2 } }

/-- The sequencer back in IDLE, its verdict and bidding record discarded (R36, R63). -/
def sequencerIdle (s : State) : State :=
  { s with sequencer := { s.sequencer with phase := .idle, verdict := none, bidding := none } }

/-- The claim slot closed: the CLAIM slot and the latch empty (R14, R45 to R47), the phase IDLE. -/
def slotClosed (s : State) : State :=
  sequencerIdle { s with port := { s.port with slotOpen := false, claim := none, latch := none } }

/-- R42: a station in CLAIMING that is not the winner counts a claim lost. -/
def countLost (s : State) : State :=
  if s.sequencer.phase = .claiming then
    countStation (fun c => { c with claimsLost := c.claimsLost + 1 }) s
  else s

/-- R47: whether the close with no claim counts as an unclaimed offer. -/
def countsUnclaimed (q : Sequencer) : Bool :=
  q.verdict == some .wellFormed && (q.bidding.map (·.active)).getD false

/-- R47, R42: the slot closes with no claim. -/
def closeNoClaim (s : State) : State :=
  let t := countLost s
  let t :=
    if countsUnclaimed s.sequencer then
      countStation (fun c => { c with unclaimed := c.unclaimed + 1 }) t
    else t
  slotClosed t

/-- R13: a block of another kind, or a bad block, has run in the open slot, so the slot closes with no claim at that
block's end. While the own CLAIM is on the line it is that CLAIM's end that closes the slot (R50). -/
def closeByOther (s : State) : State :=
  if s.port.slotOpen && !ownOnLine s.port .claim then closeNoClaim s else s

/-- R7: how a block of a kind stations send is observed. `own` gives the block that was on the line, whose attempt
has completed, its slot now free for what was held aside; with no block of the kind on the line nothing has been
observed. A block that is `heard` has run in any open claim slot, which R13 closes; a CLAIM closes it by its own
rules. The answer says whether the block is the station's own. -/
def observe (k : SlotKind) (o : Observed) (s : State) : Option (Bool × BusBlock × State) :=
  match o with
  | .own =>
    match s.port.onLine with
    | none => none
    | some x =>
      if x.kind = k then
        some (true, x.block, blockEnded { s with port := { s.port with onLine := none } })
      else none
  | .heard blk =>
    if k = .claim then some (false, blk, blockEnded s)
    else some (false, blk, closeByOther (blockEnded s))

/-! ### The hold queue against E -/

/-- The head of the hold queue is at E (R150). -/
def headAtE (s : State) : Bool :=
  match s.release.e, s.holdQueue.entries with
  | some e, h :: _ => h.seq == e
  | _, _ => false

/-- R152: the hold queue is non-empty and its head is not at E. -/
def waiting (s : State) : Bool :=
  match s.holdQueue.entries with
  | [] => false
  | _ :: _ => !headAtE s

/-- Whether an entry lies at E or in window of `e` (R127, R136). -/
def inWindow (e : Seq) (h : HoldEntry) : Bool := decide (seqDist e h.seq < Config.window)

/-- R136: entries at a distance of 1024 or more from E are removed, each counted as stale. -/
def purge (s : State) : State :=
  match s.release.e with
  | none => s
  | some e =>
    let kept := s.holdQueue.entries.filter (inWindow e)
    let gone := s.holdQueue.entries.length - kept.length
    countStation (fun c => { c with stale := satAdd c.stale gone })
      { s with holdQueue.entries := kept }

/-- R135: the entry with sequence `q` is removed, if it is held. -/
def removeEntry (q : Seq) (s : State) : State :=
  { s with holdQueue.entries := s.holdQueue.entries.filter (fun h => h.seq != q) }

/-! ### Horizons (R155, R156) -/

/-- The order of R155, "lowest relative to E": stale values lie below all others, each side by its distance. -/
def horizonRank (e x : Seq) : Nat :=
  if Config.staleFrom ≤ seqDist e x then seqDist e x - Config.staleFrom else seqDist e x + Config.staleFrom

/-- The lowest of a list of sequence numbers relative to E (R155). -/
def lowestToE (e : Seq) : List Seq → Option Seq
  | [] => none
  | x :: xs =>
    match lowestToE e xs with
    | none => some x
    | some y => if horizonRank e x ≤ horizonRank e y then some x else some y

/-- The line units of the pairs in SERVICE or WIND-DOWN. -/
def servingLines (s : State) : List LineUnit := (allPairs.map (line s)).filter inService

/-- R155: the own horizon. -/
def ownHorizon (s : State) : Horizon :=
  match s.release.e with
  | none => .unknown
  | some e =>
    if (servingLines s).any (fun u => u.lastReceived.isNone) then .unknown
    else
      let components :=
        (servingLines s).filterMap (fun u => u.lastReceived.map (· + 1)) ++
          (s.holdQueue.entries.head?.map (·.seq)).toList
      match lowestToE e components with
      | none => .openEnded
      | some x => .bound x

/-- R156: a horizon that is OPEN, or BOUND at a distance of 1 to 8191 from E. -/
def horizonAhead (e : Seq) : Horizon → Bool
  | .openEnded => true
  | .unknown => false
  | .bound x => decide (1 ≤ seqDist e x ∧ seqDist e x < Config.staleFrom)

/-- Whether a horizon is BOUND. -/
def isBound : Horizon → Bool
  | .bound _ => true
  | _ => false

/-- R31: the entries of the PRESENT peers; the station's own place is no peer. -/
def presentPeers (s : State) : List PeerEntry :=
  ((allStations.filter (fun k => some k != s.group.number)).map (stationGet s.group.table)).filter (·.present)

/-- R156: the group horizon is ahead of E. -/
def groupAhead (s : State) : Bool :=
  match s.release.e with
  | none => false
  | some e =>
    let hs := ownHorizon s :: (presentPeers s).map (·.horizon)
    hs.all (horizonAhead e) && hs.any isBound

/-! ### The release controller's blocks -/

/-- R154: SKIP(E) placed in its slot. -/
def placeSkip (s : State) : State :=
  match s.group.number, s.release.e with
  | some k, some e => placeBlock .skip ⟨seqValue e, stationAddress k, 0, []⟩ s
  | _, _ => s

/-- The marks byte of a RELEASE body (R180). -/
def releaseFlags (startMark endMark broken : Bool) : Byte :=
  BitVec.ofNat 8 ((if startMark then 128 else 0) + (if endMark then 64 else 0) + (if broken then 32 else 0))

/-- R150: the RELEASE built from the head entry, its broken flag false for an entry with a start mark. -/
def releaseBlock (k : StationNo) (broken : Bool) (h : HoldEntry) : BusBlock where
  value := seqValue h.seq
  sender := stationAddress k
  pair := 0
  body :=
    byte2 h.length ++ [releaseFlags h.startMark h.endMark (if h.startMark then false else broken)] ++ h.payload

/-- R150: a RELEASE is placed when the head is at E, HOLD is off and no RELEASE is pending or on the bus. -/
def tryRelease (s : State) : State :=
  match s.group.number, s.holdQueue.entries with
  | some k, h :: _ =>
    if isActive s && headAtE s && !s.release.hold && s.port.release.isNone && !ownOnLine s.port .release then
      placeBlock .release (releaseBlock k s.release.broken h) s
    else s
  | _, _ => s

/-- R157: SKIP(E) is placed at once when the waiting condition holds, HOLD is off and the group horizon is ahead of
E. -/
def evidenceSkip (s : State) : State :=
  if isActive s && waiting s && !s.release.hold && groupAhead s then placeSkip s else s

/-- R153: the effective skip time. -/
def effectiveSkip (s : State) : Nat :=
  (servingLines s).foldl (fun t u => max t (u.farCeiling + Config.skipSlack)) (config s).skipTime

/-- R145, R152: the skip timer loaded with the effective skip time, FROZEN while HOLD is on. -/
def loadedSkip (s : State) : SkipTimer :=
  if s.release.hold then .frozen (effectiveSkip s) else .running (effectiveSkip s)

/-- R145: a move of E, after E and BROKEN have been set. -/
def moveE (s : State) : State :=
  let s := purge s
  let s := withdrawBlock .release s
  let s := withdrawBlock .skip s
  let s := withdrawBlock .rebase s
  let s := { s with release.skipTimer := if waiting s then loadedSkip s else .stopped }
  let s := tryRelease s
  evidenceSkip s

/-- R146, R147: one E adoption is counted when E held a value other than `q`. -/
def countEAdoption (q : Seq) (s : State) : State :=
  if s.release.e = some q then s
  else countStation (fun c => { c with eAdoptions := satInc c.eAdoptions }) s

/-- R139, R162: REBASE(q) placed in its slot. -/
def placeRebase (q : Seq) (s : State) : State :=
  match s.group.number with
  | some k => if isActive s then placeBlock .rebase ⟨seqValue q, stationAddress k, 0, []⟩ s else s
  | none => s

/-- R160: HOLD turns on at an ACTIVE station: RELEASE and SKIP are withdrawn, and the skip timer is FROZEN. -/
def holdTurnsOn (s : State) : State :=
  let s := withdrawBlock .release s
  let s := withdrawBlock .skip s
  { s with
    release.skipTimer :=
      match s.release.skipTimer with
      | .running left => .frozen left
      | .expired => .frozen 0
      | t => t }

/-- R160, R152: HOLD has turned off at an ACTIVE station: a RELEASE is placed if the head is at E, the skip timer
resumes, one FROZEN at 0 with its SKIP, and the evidence skip is tested. -/
def holdTurnsOff (s : State) : State :=
  let s := tryRelease s
  let s :=
    match s.release.skipTimer with
    | .frozen 0 => placeSkip { s with release.skipTimer := .expired }
    | .frozen left => { s with release.skipTimer := .running left }
    | _ => s
  evidenceSkip s

/-! ### An arrival at the hold queue (R131 to R133, R138) -/

/-- A new entry placed by its distance from E: after every smaller one, before every larger one (R132). -/
def insertEntry (e : Seq) (x : HoldEntry) : List HoldEntry → List HoldEntry
  | [] => [x]
  | h :: t => if seqDist e h.seq < seqDist e x.seq then h :: insertEntry e x t else x :: h :: t

/-- The run-away counter after a stale or far-ahead arrival `q`: at 16 it asks for REBASE(q) and returns to 0
(R138, R139). -/
def runawayUp (q : Seq) (s : State) : State :=
  if 16 ≤ s.holdQueue.runaway + 1 then placeRebase q { s with holdQueue.runaway := 0 }
  else { s with holdQueue.runaway := s.holdQueue.runaway + 1 }

/-- R132: the arrival stored, counted as accepted, the run-away counter back at 0. -/
def storeEntry (e : Seq) (x : HoldEntry) (s : State) : State :=
  countStation (fun c => { c with accepted := c.accepted + 1 })
    { s with holdQueue := ⟨insertEntry e x s.holdQueue.entries, 0⟩ }

/-- R133: an arrival for storage at a full queue is compared with the tail; the overflow is counted either way. -/
def storeAtFull (e : Seq) (x : HoldEntry) (s : State) : State :=
  let s1 := countStation (fun c => { c with overflows := satInc c.overflows }) s
  match s.holdQueue.entries.getLast? with
  | none => s1
  | some tail =>
    if seqDist e x.seq < seqDist e tail.seq then
      storeEntry e x { s1 with holdQueue.entries := s.holdQueue.entries.dropLast }
    else s1

/-- R131: the arrival is classified against E. -/
def classifyArrival (e : Seq) (x : HoldEntry) (s : State) : State :=
  if Config.staleFrom ≤ seqDist e x.seq then
    runawayUp x.seq (countStation (fun c => { c with stale := satInc c.stale }) s)
  else if Config.window ≤ seqDist e x.seq then
    runawayUp x.seq (countStation (fun c => { c with farAhead := satInc c.farAhead }) s)
  else if s.holdQueue.entries.any (fun h => h.seq == x.seq) then
    countStation (fun c => { c with duplicates := satInc c.duplicates }) s
  else if s.holdQueue.entries.length < Config.holdEntries then storeEntry e x s
  else storeAtFull e x s

/-- R152: what an arrival does to the skip timer, from the waiting condition before it: loaded when the condition
begins; STOPPED, with the SKIP withdrawn, when it ends. -/
def skipTimerAtArrival (before : Bool) (s : State) : State :=
  if !before && waiting s then { s with release.skipTimer := loadedSkip s }
  else if before && !waiting s then withdrawBlock .skip { s with release.skipTimer := .stopped }
  else s

/-- An arrival at an ACTIVE station: classified and stored (R131 to R133), the skip timer set (R152), a RELEASE
placed if the head is at E (R150), the evidence skip tested (R157). -/
def holdArrival (x : HoldEntry) (s : State) : State :=
  match s.release.e with
  | none => s
  | some e =>
    let before := waiting s
    let s := classifyArrival e x s
    let s := skipTimerAtArrival before s
    let s := tryRelease s
    evidenceSkip s

end Sys2Proof.Machine
end

