-- ==== Sys2Proof/Machine/LineOps.lean ====
section
/-! DEFINITION. The operations shared by the commands, second part: the line units. Starting a frame (R73), exits from
service and failures before it (R76, R77, R85, R86, R125), the entries to DETECT, TRAIN, QUALIFY, SERVICE and WIND-DOWN
(R87, R90, R100, R102, R118), the rate search (R93), and the frame boundary (R69, R75, R89, R98 to R100, R115). -/

namespace Sys2Proof.Machine

/-! ### Frames -/

/-- R73: a frame starts, carrying the transmit frame count, which then rises by one. -/
def txStart (content : TxContent) (rate : Nat) (u : LineUnit) : LineUnit :=
  { u with tx := some ⟨content, u.txCount, rate⟩, txCount := u.txCount + 1 }

/-- A frame of pair `p` starts. -/
def startFrame (p : Pair) (content : TxContent) (rate : Nat) (s : State) : State :=
  modLine p (txStart content rate) s

/-! ### Leaving a state -/

/-- R86 step 4, R76, R77, R106: every timer stopped, pending frames and working records discarded, the frame on the
pair cut. The trained rates, D, the far ceiling, the rates in effect, LOS and the margin keep their values. -/
def stopWork (u : LineUnit) : LineUnit :=
  { u with
    holdOff := .stopped
    monitor := .stopped
    lit := false
    detect := .stopped
    training := .stopped
    qualification := .stopped
    train := .start
    qualify := .start
    serviceClock := .stopped
    svc := .clear
    ctl := .empty
    tx := none }

/-- R84: entry to QUIET; the hold-off runs for hold-off base × 2^k ms at an ACTIVE station and is held elsewhere. -/
def enterQuiet (s : State) (u : LineUnit) : LineUnit :=
  { u with
    state := .quiet
    holdOff :=
      if isActive s then .running ((config s).holdOffBase * 2 ^ u.k * Config.ms) else .held }

/-- R85: k raised by one, at most to 7. -/
def raiseK (u : LineUnit) : LineUnit := { u with k := min 7 (u.k + 1) }

/-- R85: k at an exit, raised while the service clock shows less than 60 s. A clock that has come to 60 s clears k, and that
holds for an exit of the same moment too, whether or not SERVICE_CLOCK_60S has been taken (DEDUCED, log 35). -/
def raiseKAtExit (u : LineUnit) : LineUnit :=
  match u.serviceClock with
  | .stopped => u
  | .running 0 => { u with k := 0 }
  | .running (_ + 1) => raiseK u

/-- Whether the own LEAVE of this wind-down has started (R121). -/
def ownLeaveStarted (u : LineUnit) : Bool :=
  match u.svc.windDown with
  | some w => w.leaveStarted
  | none => false

/-- R77: whether the exit calls for a parting LEAVE. -/
def partingLeave (reason : ExitReason) (u : LineUnit) : Bool :=
  match reason with
  | .farLeave => false
  | .losLoss => true
  | .windDownEnd => !ownLeaveStarted u
  | .windDownLimit => !ownLeaveStarted u
  | .conflict => !ownLeaveStarted u

/-- R76, R77, R85: the line unit after its exit for `reason`, in QUIET, or OFF at CONFLICT. -/
def exitLine (reason : ExitReason) (s : State) (u : LineUnit) : LineUnit :=
  let v := stopWork { raiseKAtExit u with queue := [] }
  let v := if reason = .conflict then { v with state := .off } else enterQuiet s v
  if partingLeave reason u then txStart .leave u.sendRate v else v

/-- R76, R109, R125: a pair exits: its fragments are counted as discarded, a LOS loss is counted, the event is handed
over with the reason, and the evidence skip is tested (R157). -/
def exitPair (p : Pair) (reason : ExitReason) (s : State) : State :=
  let u := line s p
  let t := setLine p (exitLine reason s u) s
  let t := countPair p (fun c => { c with discarded := c.discarded + BitVec.ofNat 32 u.queue.length }) t
  let t :=
    if reason = .losLoss then countPair p (fun c => { c with losLosses := satInc c.losLosses }) t else t
  let t := recordEvent .leftService (pairIndex p) (exitCode reason) t
  evidenceSkip t

/-- R86 steps 1 to 4: the line unit after a failure, with a parting LEAVE at the rate given, if any. -/
def failLine (parting : Option Nat) (s : State) (u : LineUnit) : LineUnit :=
  let v := enterQuiet s (stopWork (raiseK u))
  match parting with
  | some rate => txStart .leave rate v
  | none => v

/-- R86: the rate of the parting LEAVE of a failure in DETECT or TRAIN, if one is sent. -/
def trainParting : TrainCause → Option Nat
  | .detectTimeout => none
  | .farLeave => none
  | _ => some 1

/-- R86: a failure in DETECT or TRAIN. -/
def failTraining (p : Pair) (cause : TrainCause) (s : State) : State :=
  let t := setLine p (failLine (trainParting cause) s (line s p)) s
  let t := countPair p (fun c => { c with trainingFailures := satInc c.trainingFailures }) t
  recordEvent .trainingFail (pairIndex p) (trainCauseCode cause) t

/-- R86: a failure in QUALIFY; the parting LEAVE goes at the trained send rate. -/
def failQualify (p : Pair) (cause : QualifyCause) (s : State) : State :=
  let u := line s p
  let parting := if cause = .farLeave then none else some u.trainedSend
  let t := setLine p (failLine parting s u) s
  let t := countPair p (fun c => { c with qualificationFailures := satInc c.qualificationFailures }) t
  recordEvent .qualificationFail (pairIndex p) (qualifyCauseCode cause) t

/-! ### Entries -/

/-- R87: entry to DETECT; the first WAKE starts at once, or after the parting frame still on the pair. R88 does not say when
the first monitor period of DETECT begins: here it begins at the entry (DESIGN CHOICE, log 32). -/
def enterDetectLine (s : State) (u : LineUnit) : LineUnit :=
  let v :=
    { u with
      state := .detect
      holdOff := .stopped
      txCount := 0
      rxExpected := none
      lit := false
      litCount := 0
      unlitCount := 0
      monitor := .running Config.monitorPeriod
      detect := .running (2 ^ (config s).detectExp * 128 * Config.ms) }
  if v.tx.isNone then txStart (.wake (config s).role) 1 v else v

/-- R90: entry to TRAIN. -/
def enterTrainLine (s : State) (u : LineUnit) : LineUnit :=
  { u with
    state := .train
    detect := .stopped
    monitor := .stopped
    lit := false
    farParams := none
    train := .start
    trainedSend := 0
    trainedRecv := 0
    delay := 0
    farCeiling := 0
    training := .running (2 ^ (config s).trainingExp * 128 * Config.ms) }

/-- R99, R100: entry to QUALIFY. -/
def enterQualifyLine (u : LineUnit) : LineUnit :=
  { u with
    state := .qualify
    training := .stopped
    train := .start
    qualify := .start
    qualification := .running Config.qualifyLimit }

/-- R102 steps 1 to 5, R106: entry to SERVICE, with the margin its front end supplies. -/
def enterServiceLine (margin : BitVec 6) (s : State) (u : LineUnit) : LineUnit :=
  { u with
    state := .service
    qualification := .stopped
    sendRate := u.trainedSend
    recvRate := u.trainedRecv
    lastReceived := none
    serviceClock := .running (60000 * Config.ms)
    monitor := .running Config.monitorPeriod
    los := false
    margin := margin.toNat
    svc :=
      { ServiceRecord.clear with
        reRateCheck := .running (2 ^ (config s).reRateExp * 64 * Config.ms) } }

/-- R102: entry to SERVICE, counted and handed over as an event with the send rate; the evidence skip is tested
(R157). -/
def enterService (p : Pair) (margin : BitVec 6) (s : State) : State :=
  let t := setLine p (enterServiceLine margin s (line s p)) s
  let t := countPair p (fun c => { c with serviceEntries := satInc c.serviceEntries }) t
  let t := recordEvent .serviceEntry (pairIndex p) (line t p).sendRate t
  evidenceSkip t

/-- R121: the own LEAVE is placed when the queue is empty, no own WIND-DOWN is pending, no far LEAVE has come and the
own LEAVE has not started. -/
def placeOwnLeave (u : LineUnit) : LineUnit :=
  match u.svc.windDown with
  | none => u
  | some w =>
    if u.state = .windDown ∧ u.queue = [] ∧ u.ctl.windDown = none ∧ w.farLeave = false ∧ w.leaveStarted = false then
      { u with ctl := { u.ctl with leave := true } }
    else u

/-- R118 step 4, R119: the wind-down count of the reason. -/
def countWindDown (reason : WindDownReason) (c : PairCounters) : PairCounters :=
  match reason with
  | .errors => { c with windDownErrors := satInc c.windDownErrors }
  | .margin => { c with windDownMargin := satInc c.windDownMargin }
  | .reRateTimeout => { c with windDownReRate := satInc c.windDownReRate }
  | .farRequest => { c with windDownFar := satInc c.windDownFar }

/-- R118 steps 1 to 3, R119: the line unit enters WIND-DOWN; on its own decision it places a WIND-DOWN frame. The
period's marks, the LOS runs and a pending target stay. -/
def windDownLine (reason : WindDownReason) (u : LineUnit) : LineUnit :=
  placeOwnLeave
    { u with
      state := .windDown
      ctl :=
        { u.ctl with
          windDown := if reason = .farRequest then u.ctl.windDown else some reason
          rateAsk := none }
      svc :=
        { u.svc with
          losHold := .stopped
          windowPeriods := 0
          windowErrored := 0
          reRateCheck := .stopped
          downStreak := 0
          upStreak := 0
          request := false
          reRateTimer := .stopped
          windDown := some ⟨reason, .running Config.windDownLimit, false, false, false, none⟩ } }

/-- R118, R119: a wind-down starts. -/
def startWindDown (p : Pair) (reason : WindDownReason) (s : State) : State :=
  countPair p (countWindDown reason) (modLine p (windDownLine reason) s)

/-- R122: the conditions of a normal end: far LEAVE received, queue empty, no own LEAVE on the pair. -/
def windDownDone (u : LineUnit) : Bool :=
  match u.svc.windDown with
  | none => false
  | some w =>
    u.state == .windDown && w.farLeave && u.queue.isEmpty && (!w.leaveStarted || w.leaveEnded)

/-- R122: the pair exits normally when the conditions hold. -/
def tryWindDownEnd (p : Pair) (s : State) : State :=
  if windDownDone (line s p) then exitPair p .windDownEnd s else s

/-! ### The rate search (R93) -/

/-- What one burst result makes of a search: the next burst, the end with a rate, or RATE FLOOR (R97). -/
inductive SearchStep where
  | next (sr : Search)
  | done (rate : Nat)
  | floor
  deriving DecidableEq, Repr

/-- R93: the record at the start of a search. -/
def searchStart (lo : Nat) : Search := ⟨.rising, lo, none, none, 1⟩

/-- R93, HALVING: the next candidate between good and fail, or the end at good. -/
def halve (good fail burst : Nat) : SearchStep :=
  if fail - good > 1 then .next ⟨.halving, (good + fail) / 2, some good, some fail, burst + 1⟩ else .done good

/-- R93, R97: the search after the result of its burst. -/
def searchStep (lo hi : Nat) (clean : Bool) (sr : Search) : SearchStep :=
  match sr.phase with
  | .rising =>
    if clean then
      if sr.candidate = hi then .done hi
      else .next ⟨.rising, min (2 * sr.candidate) hi, some sr.candidate, sr.fail, sr.burst + 1⟩
    else if sr.candidate = lo then .floor
    else halve (sr.good.getD lo) sr.candidate sr.burst
  | .halving =>
    if clean then halve sr.candidate (sr.fail.getD hi) sr.burst
    else halve (sr.good.getD lo) sr.candidate sr.burst

/-- R93, R94: the line unit begins the search of its own direction as sender. -/
def beginSearch (u : LineUnit) : LineUnit :=
  { u with
    train :=
      { u.train with
        phase := .sending
        paramsFill := false
        search := some (searchStart u.train.lo)
        probeNext := some 0
        deadline := .stopped } }

/-- R96: the search has ended with `rate`, which becomes the trained send rate, and the closing PROBE is pending. -/
def endSearch (rate : Nat) (u : LineUnit) : LineUnit :=
  { u with
    trainedSend := rate
    train :=
      { u.train with
        phase := .closing
        probeNext := none
        deadline := .stopped
        closingPending := true } }

/-- R98: the ECHO phase begins, with an ECHO-ASK placed. -/
def enterEcho (u : LineUnit) : LineUnit :=
  { u with
    train :=
      { u.train with
        phase := .echo
        closingPending := false
        closingWait := .stopped
        echoAskPending := true } }

/-- R96: the closing PROBE is acknowledged: the cabinet end goes on as the receiver of the second direction, the farm
end to the ECHO phase. -/
def closingAcked (role : Role) (u : LineUnit) : LineUnit :=
  match role with
  | .cabinet =>
    { u with
      train := { u.train with phase := .receiving, closingPending := false, closingWait := .stopped } }
  | .farm => enterEcho u

/-- R93, R94, R97: the sender takes the result of its burst. -/
def burstResult (p : Pair) (clean : Bool) (s : State) : State :=
  let u := line s p
  match u.train.search with
  | none => s
  | some sr =>
    match searchStep u.train.lo u.train.hi clean sr with
    | .next sr' =>
      setLine p
        { u with train := { u.train with search := some sr', probeNext := some 0, deadline := .stopped } } s
    | .done rate => setLine p (endSearch rate u) s
    | .floor => failTraining p .rateFloor s

/-- R95: the burst's window closes: a VERDICT with the good count and the result is placed. One still pending is replaced
(DESIGN CHOICE, log 33). -/
def closeWindow (u : LineUnit) : LineUnit :=
  match u.train.judge with
  | none => { u with train := { u.train with window := .stopped } }
  | some j =>
    { u with
      train :=
        { u.train with
          window := .stopped
          judge := some { j with judged := true }
          verdict := some (.burst j.burst j.good (decide (Config.cleanBurst ≤ j.good))) } }

/-- R99: QUALIFY is entered once D is measured and the own ECHO has been sent. -/
def tryQualify (u : LineUnit) : LineUnit :=
  if u.state = .train ∧ u.train.measured ∧ u.train.echoSent then enterQualifyLine u else u

/-- R99: D from the round trip less the turnaround and the ECHO's own 3000 / R µs, halved and rounded up, taken as 0
below 0 and clamped to 16,383. `trip` is t4 - t1 in whole µs; the arithmetic is exact, over 2 R. -/
def pathDelay (trip turnaround rate : Nat) : Nat :=
  min Config.maxDelay (ceilDiv (rate * trip - (rate * turnaround + 3000)) (2 * rate))

/-! ### The frame boundary -/

/-- R89: the fill frame of TRAIN: PARAMS while R91 calls for it, WAKE after that. -/
def trainFill (s : State) (u : LineUnit) : TxContent :=
  if u.train.paramsFill then
    .params (config s).role (config s).minRate (config s).maxRate (config s).ceiling u.farParams.isSome
  else .wake (config s).role

/-- R94: the verdict deadline of a burst at candidate `rate`: its duration plus 100 ms. -/
def burstDeadline (rate : Nat) : Nat := ceilDiv 1024000 rate + Config.verdictWait

/-- R89, R94, R98: the next frame of TRAIN. -/
def chooseTrain (s : State) (u : LineUnit) : LineUnit :=
  match u.train.echoReply with
  | some t2 =>
    txStart (.echo ((s.timeBase - t2).setWidth 16)) u.trainedSend
      { u with train := { u.train with echoReply := none } }
  | none =>
    match u.train.verdict with
    | some (.burst n good clean) =>
      txStart (.verdict n good clean) 1 { u with train := { u.train with verdict := none } }
    | some (.closing rate) =>
      txStart (.closingVerdict rate) 1 { u with train := { u.train with verdict := none } }
    | none =>
      if u.train.closingPending then
        txStart (.closingProbe u.trainedSend) 1 { u with train := { u.train with closingPending := false } }
      else if u.train.echoAskPending then
        txStart .echoAsk u.trainedSend { u with train := { u.train with echoAskPending := false } }
      else
        match u.train.search, u.train.probeNext with
        | some sr, some i =>
          txStart (.probe sr.burst sr.candidate i) sr.candidate
            { u with
              train :=
                { u.train with
                  probeNext := if i < 63 then some (i + 1) else none
                  deadline := if i = 0 then .running (burstDeadline sr.candidate) else u.train.deadline } }
        | _, _ => txStart (trainFill s u) 1 u

/-- R100: the next frame of QUALIFY: LEAVE, QUALIFIED, or the next TEST frame. -/
def chooseQualify (u : LineUnit) : LineUnit :=
  if u.ctl.leave then txStart .leave u.trainedSend { u with ctl := { u.ctl with leave := false } }
  else if u.ctl.qualified then txStart .qualified u.trainedSend { u with ctl := { u.ctl with qualified := false } }
  else
    txStart (.test u.qualify.testIndex) u.trainedSend
      { u with qualify := { u.qualify with testIndex := u.qualify.testIndex + 1 } }

/-- R121: "own LEAVE started" is set when the own LEAVE's first byte goes out. -/
def markLeaveStarted (u : LineUnit) : LineUnit :=
  { u with
    ctl := { u.ctl with leave := false }
    svc := { u.svc with windDown := u.svc.windDown.map (fun w => { w with leaveStarted := true }) } }

/-- R69, R71: the next frame of SERVICE and WIND-DOWN, at the send rate in effect. -/
def chooseService (u : LineUnit) : LineUnit :=
  if u.ctl.leave then txStart .leave u.sendRate (markLeaveStarted u)
  else
    match u.ctl.windDown with
    | some reason => txStart (.windDown reason) u.sendRate { u with ctl := { u.ctl with windDown := none } }
    | none =>
      match u.ctl.rateSwitch with
      | some rate => txStart (.rateSwitch rate) u.sendRate { u with ctl := { u.ctl with rateSwitch := none } }
      | none =>
        if u.ctl.qualified then
          txStart .qualified u.sendRate { u with ctl := { u.ctl with qualified := false } }
        else
          match u.ctl.rateAsk with
          | some target => txStart (.rateAsk target) u.sendRate { u with ctl := { u.ctl with rateAsk := none } }
          | none =>
            match u.queue with
            | f :: _ => txStart (.frag f) u.sendRate u
            | [] => txStart .idle u.sendRate u

/-- R68, R81: the next frame a line unit with no frame on its pair chooses under the rules of its state. -/
def chooseLine (s : State) (u : LineUnit) : LineUnit :=
  match u.state with
  | .off => u
  | .quiet => u
  | .detect => txStart (.wake (config s).role) 1 u
  | .train => chooseTrain s u
  | .qualify => chooseQualify u
  | .service => chooseService u
  | .windDown => placeOwnLeave (chooseService u)

/-- Whether the frame on the pair is an IDLE. -/
def txIsIdle (u : LineUnit) : Bool :=
  match u.tx with
  | some f => f.content == .idle
  | none => false

/-- R69, R72: the next frame of pair `p` is chosen and started, an IDLE counted as it starts. A frame already on the
pair, the parting LEAVE of an exit, is left to run. -/
def chooseNext (p : Pair) (s : State) : State :=
  let u := line s p
  if u.tx.isSome then s
  else
    let v := chooseLine s u
    let t := setLine p v s
    if txIsIdle v then countPair p (fun c => { c with idleFrames := c.idleFrames + 1 }) t else t

/-- R75: a FRAG completes: the head fragment leaves the queue and is counted as sent. In WIND-DOWN the pair may then
exit (R122) or place its own LEAVE (R121). -/
def fragEnds (p : Pair) (s : State) : State :=
  match (line s p).queue with
  | [] => s
  | f :: rest =>
    let t := modLine p (fun u => placeOwnLeave { u with queue := rest }) s
    let t :=
      countPair p
        (fun c => { c with fragsSent := c.fragsSent + 1, bytesSent := c.bytesSent + BitVec.ofNat 40 f.length }) t
    tryWindDownEnd p t

/-- R115: a RATE-SWITCH carrying `rate` ends: the rate takes effect, a pending target equal to it is done and a newer
one gets its own RATE-SWITCH. -/
def rateSwitchLine (rate : Nat) (u : LineUnit) : LineUnit :=
  match u.svc.pendingTarget with
  | none => { u with sendRate := rate }
  | some t =>
    if t = rate then { u with sendRate := rate, svc := { u.svc with pendingTarget := none } }
    else { u with sendRate := rate, ctl := { u.ctl with rateSwitch := some t } }

/-- R115: the counts and the event of a RATE-SWITCH's end. -/
def rateSwitchEnds (p : Pair) (rate : Nat) (s : State) : State :=
  let old := (line s p).sendRate
  let t := modLine p (rateSwitchLine rate) s
  let t :=
    if rate < old then countPair p (fun c => { c with downRates := satInc c.downRates }) t
    else if old < rate then countPair p (fun c => { c with upRates := satInc c.upRates }) t
    else t
  recordEvent .reRateDone (pairIndex p) rate t

/-- R113: a RATE-ASK ends: the 50 ms re-rate timer starts, while the request is outstanding. -/
def rateAskEnds (u : LineUnit) : LineUnit :=
  if u.state = .service ∧ u.svc.request then
    { u with svc := { u.svc with reRateTimer := .running Config.reRateWait } }
  else u

/-- R98: an ECHO-ASK ends: t1 is noted and the echo deadline set. -/
def echoAskEnds (now : Stamp) (u : LineUnit) : LineUnit :=
  { u with train := { u.train with t1 := some now, echoDeadline := .running Config.echoWait } }

/-- R99: the ECHO that answers the far ECHO-ASK has been sent. -/
def echoEnds (u : LineUnit) : LineUnit := tryQualify { u with train := { u.train with echoSent := true } }

/-- R96: a closing PROBE ends, and the wait for its acknowledgement starts. -/
def closingProbeEnds (u : LineUnit) : LineUnit :=
  if u.train.phase = .closing then
    { u with train := { u.train with closingWait := .running Config.closingWait } }
  else u

/-- R122, R123: the own LEAVE of a wind-down ends: an exit deferred to this moment is made with its reason, and
otherwise the pair exits normally if it may. -/
def ownLeaveEnds (p : Pair) (s : State) : State :=
  match (line s p).svc.windDown with
  | none => s
  | some w =>
    let t :=
      modLine p
        (fun u => { u with svc := { u.svc with windDown := some { w with leaveEnded := true } } }) s
    match w.deferred with
    | some reason => exitPair p reason t
    | none => tryWindDownEnd p t

/-- What the end of a frame of this content does, the frame having left the pair. -/
def contentEnds (p : Pair) (content : TxContent) (s : State) : State :=
  let u := line s p
  match content with
  | .frag _ => if inService u then fragEnds p s else s
  | .rateSwitch rate => if inService u then rateSwitchEnds p rate s else s
  | .rateAsk _ => modLine p rateAskEnds s
  | .echoAsk => if u.state = .train then modLine p (echoAskEnds s.timeBase) s else s
  | .echo _ => if u.state = .train then modLine p echoEnds s else s
  | .closingProbe _ => if u.state = .train then modLine p closingProbeEnds s else s
  | .leave => if u.state = .windDown then ownLeaveEnds p s else s
  | .idle => s
  | .wake _ => s
  | .params _ _ _ _ _ => s
  | .probe _ _ _ => s
  | .verdict _ _ _ => s
  | .closingVerdict _ => s
  | .test _ => s
  | .qualified => s
  | .windDown _ => s

/-- R75: the last byte of the frame on the pair leaves the line unit, and the frame's end takes effect. The choice of the
next frame follows in the same moment (log 8). -/
def frameEnds (p : Pair) (s : State) : State :=
  match (line s p).tx with
  | none => s
  | some f => contentEnds p f.content (modLine p (fun u => { u with tx := none }) s)

/-- R68, R69: the frame boundary: the end of the frame on the pair, if there is one, and the choice of the next. -/
def boundary (p : Pair) (s : State) : State := chooseNext p (frameEnds p s)

/-- The end of the frame on the pair, when its content is one that `is` names; otherwise there is no such end. -/
def endOf (is : TxContent → Bool) (p : Pair) (s : State) : State :=
  match (line s p).tx with
  | none => s
  | some f => if is f.content then frameEnds p s else s

/-- R68: every choice still due is made: a line unit whose frame has ended in this moment, and that has chosen no next
one, chooses it. -/
def chooseDue (s : State) : State := allPairs.foldl (fun t p => chooseNext p t) s

end Sys2Proof.Machine
end

