-- ==== Sys2Proof/Machine/GroupOps.lean ====
section
/-! DEFINITION. The operations shared by the commands, third part: the group monitor's changes of mode (R19, R22 to
R24, R33), the MARK it sends (R26), and the join record kept in step (R22). -/

namespace Sys2Proof.Machine

/-- R22: entry to LISTENING: the join record cleared, the listening period given. -/
def enterListening (period : Listening) (s : State) : State :=
  { s with
    group := { s.group with mode := .listening, readTimer := .stopped, join := .empty, listening := period } }

/-- R22: the length of the listening period, 8 ms with a station number and 16 ms without. -/
def listenPeriod (s : State) : Nat :=
  if s.group.number.isSome then Config.listenNumbered else Config.listenUnnumbered

/-- R83: a line unit goes OFF and sends nothing. -/
def lineOff (u : LineUnit) : LineUnit := { stopWork u with state := .off }

/-- R83, R104: each pair the stored record disables goes OFF. -/
def offDisabled (s : State) : State :=
  { s with
    lines := quadOf (fun p => if quadGet (config s).enabled p then line s p else lineOff (line s p)) }

/-- R19: the start record is stored, and the station enters LISTENING. -/
def storeRecord (r : StartRecord) (defaults : Bool) (s : State) : State :=
  let s := offDisabled { s with group := { s.group with record := some r, defaultsInUse := defaults } }
  enterListening (.running (listenPeriod s)) s

/-- R84, R104: a line unit in held QUIET starts its hold-off at the entry to ACTIVE. -/
def startHoldOff (base : Nat) (u : LineUnit) : LineUnit :=
  match u.holdOff with
  | .held => { u with holdOff := .running (base * 2 ^ u.k * Config.ms) }
  | _ => u

/-- R24, R144: entry to ACTIVE under station number `k`, a late join with the join values or a cold start at 0. -/
def enterActive (k : StationNo) (s : State) : State :=
  let start := s.group.join.values.getD ⟨0, 0⟩
  purge
    { s with
      group :=
        { s.group with
          mode := .active
          number := some k
          chainOut := true
          listening := .none
          join := .empty
          beacon := .running Config.beaconPeriod }
      sequencer := { s.sequencer with ns := some start.ns }
      release := { s.release with e := some start.e, broken := false }
      lines := quadOf (fun p => startHoldOff (config s).holdOffBase (line s p)) }

/-- R23, R144: entry to SPARE. -/
def enterSpare (s : State) : State :=
  { s with
    group := { s.group with mode := .spare, listening := .none, join := .empty }
    release := { s.release with hold := false, holdTimer := .stopped, skipTimer := .stopped }
    lines := quadOf (fun p => lineOff (line s p)) }

/-- R23: the lowest station number that is not in the set of heard numbers. -/
def lowestFree (heard : PerStation Bool) : Option StationNo :=
  allStations.find? (fun k => !stationGet heard k)

/-! ### The join record (R22) -/

/-- R22: the join values, if present, changed by `f`. -/
def modJoin (f : JoinValues → JoinValues) (s : State) : State :=
  { s with group.join.values := s.group.join.values.map f }

/-- R22: an observed CLAIM carrying `q` sets the join NS to q + 1. -/
def joinNs (q : Seq) (s : State) : State := modJoin (fun v => { v with ns := q + 1 }) s

/-- R22: an observed RELEASE, SKIP or REBASE naming `q` sets the join E to q + 1. -/
def joinE (q : Seq) (s : State) : State := modJoin (fun v => { v with e := q + 1 }) s

/-! ### MARK (R26) -/

/-- R26: the line units in SERVICE; one in WIND-DOWN does not count. -/
def markedLines (s : State) : List LineUnit := (allPairs.map (line s)).filter (fun u => u.state == .service)

/-- R26: the own send capacity, the sum of the send rates in effect of the pairs in SERVICE. -/
def ownCapacity (s : State) : Nat := ((markedLines s).map (·.sendRate)).sum

/-- R31: the group send capacity: the own capacity and the stored capacity of every PRESENT peer. -/
def groupCapacity (s : State) : Nat := ownCapacity s + ((presentPeers s).map (·.capacity)).sum

/-- R26, R180: the MARK built from the values current now. -/
def markBlock (k : StationNo) (s : State) : BusBlock where
  value := 0
  sender := stationAddress k
  pair := 0
  body :=
    [roleByte (config s).role] ++ byte2 ((s.sequencer.ns.map (·.toNat)).getD 0) ++
      byte2 ((s.release.e.map (·.toNat)).getD 0) ++ horizonBytes (ownHorizon s) ++
      byte1 (markedLines s).length ++ byte2 (ownCapacity s)

/-! ### CONFLICT (R33) -/

/-- R33, R86, R123: what the entry to CONFLICT does to a pair outside SERVICE and WIND-DOWN: one LEAVE from DETECT,
TRAIN and QUALIFY, then OFF; QUIET goes OFF without sending. Nothing is counted. The line unit is OFF from that moment on,
and its LEAVE runs to its end on the pair (DESIGN CHOICE, log 37). -/
def conflictLine (u : LineUnit) : LineUnit :=
  match u.state with
  | .detect => txStart .leave 1 (lineOff u)
  | .train => txStart .leave 1 (lineOff u)
  | .qualify => txStart .leave u.trainedSend (lineOff u)
  | _ => lineOff u

/-- R123: whether the own LEAVE of the wind-down is on the pair. -/
def ownLeaveOnPair (u : LineUnit) : Bool :=
  match u.svc.windDown with
  | some w => u.state == .windDown && w.leaveStarted && !w.leaveEnded
  | none => false

/-- R123: the exit of a pair is left to the end of the own LEAVE that is on it. -/
def deferExit (reason : ExitReason) (u : LineUnit) : LineUnit :=
  { u with
    svc :=
      { u.svc with
        windDown := u.svc.windDown.map (fun w => { w with timer := .stopped, deferred := some reason }) } }

/-- R33, R76, R123: a pair at the station's entry to CONFLICT. -/
def conflictPair (p : Pair) (s : State) : State :=
  let u := line s p
  if inService u then
    if ownLeaveOnPair u then modLine p (deferExit .conflict) s else exitPair p .conflict s
  else setLine p (conflictLine u) s

/-- R33, R16, R142, R165: entry to CONFLICT. The number, the presence table, NS, E and BROKEN stay. -/
def enterConflict (s : State) : State :=
  let s := emptySlots s
  let s :=
    { s with
      group :=
        { s.group with mode := .conflict, beacon := .stopped, listening := .none, join := .empty }
      holdQueue := .reset
      release := { s.release with hold := false, holdTimer := .stopped, skipTimer := .stopped } }
  conflictPair .d (conflictPair .c (conflictPair .b (conflictPair .a s)))

end Sys2Proof.Machine
end

