-- ==== Sys2Proof/Machine/BusPortCmds.lean ====
section
/-! DEFINITION. The commands of the bus port: BUS_IDLE_CONTEND, SEND_ABORT, BAD_BLOCK, CLAIM_SLOT_TIMEOUT and
REPLY_OBSERVED (R4 to R11, R13, R14). -/

namespace Sys2Proof.Machine

/-- R9: the pending block of lowest kind code, CLAIM apart. -/
def lowestPending (b : BusPort) : Option (SlotKind × PendingBlock) :=
  [SlotKind.rebase, .skip, .mark, .release, .reply].findSome? (fun k => (slotOf b k).map (fun x => (k, x)))

/-- R8, R9, R13: what an ACTIVE station starts at an idle bus: in an open claim slot its CLAIM and nothing else, and
otherwise its pending block of lowest kind code. -/
def contender (s : State) : Option (SlotKind × PendingBlock) :=
  if !isActive s then none
  else if s.port.slotOpen then s.port.claim.map (fun x => (.claim, x))
  else lowestPending s.port

/-- The lowest of the arbitration fields of other attachments (R5). -/
def lowestField : List ArbField → Option ArbField
  | [] => none
  | f :: fs =>
    match lowestField fs with
    | none => some f
    | some g => if f.toNat ≤ g.toNat then some f else some g

/-- R4: whether the line is taken, by a block or by a bus reset that still holds it dominant. -/
def lineTaken (b : BusPort) : Bool := b.onLine.isSome || b.receiveBuffer.isSome || b.dominant

/-- BUS_IDLE_CONTEND (R4, R5, R9, R13, R14): the station starts its block with the `others`. The lowest arbitration
field wins; equal fields go on together. A station that loses keeps its block pending with its count, but a CLAIM
that loses empties its slot. -/
def execBusIdleContend (others : List ArbField) (s : State) : Host.Outcome State Fault Refusal :=
  .next
    (if lineTaken s.port then s
    else
      match contender s with
      | none => { s with port := { s.port with receiveBuffer := lowestField others } }
      | some (k, x) =>
        let own := arbField (slotCode k) x.block
        if others.all (fun f => decide (own.toNat ≤ f.toNat)) then
          { s with
            port :=
              { setSlot s.port k none with
                onLine := some ⟨k, x.block, x.fails, true⟩
                receiveBuffer := some own } }
        else
          { s with
            port :=
              { (if k = .claim then setSlot s.port .claim none else s.port) with
                receiveBuffer := lowestField others } })

/-- R11, R151, R152: the owner of a dropped RELEASE: the entry is discarded, and the waiting condition may begin. -/
def releaseDropped (blk : BusBlock) (s : State) : State :=
  let s := removeEntry (valueSeq blk.value) s
  let s := if isActive s && waiting s then { s with release.skipTimer := loadedSkip s } else s
  evidenceSkip s

/-- R11, R154: the owner of a dropped SKIP: the skip timer is loaded again while the waiting condition holds and HOLD
is off, and the evidence skip is tested. -/
def skipDropped (s : State) : State :=
  let s :=
    if isActive s && waiting s && !s.release.hold then
      { s with release.skipTimer := .running (effectiveSkip s) }
    else s
  evidenceSkip s

/-- R11: a block has failed four times: it is counted as dropped and its owner is told. -/
def blockDropped (x : OnLine) (s : State) : State :=
  let s := countStation (fun c => { c with droppedBlocks := satInc c.droppedBlocks }) s
  match x.kind with
  | .release => releaseDropped x.block s
  | .skip => skipDropped s
  | _ => s

/-- R8, R10, R11: what a failed attempt leaves of a block other than a CLAIM: contents held aside carry the retry
with a count of 0, a withdrawn block is not retried, and any other goes back to its slot with its count raised, or
is dropped at the fourth failure. A RELEASE may be due again once a withdrawn one has left the line (R150). -/
def attemptFailed (x : OnLine) (s : State) : State :=
  match slotOf s.port x.kind with
  | some _ => s
  | none =>
    if !x.retry then (if x.kind = .release then tryRelease s else s)
    else if Config.maxFails ≤ x.fails + 1 then blockDropped x s
    else { s with port := setSlot s.port x.kind (some ⟨x.block, x.fails + 1⟩) }

/-- SEND_ABORT (R6, R10, R11, R14): the station abandons its own block: a send abort and, since the block is bad at
its receiver too, a bad block are counted, and the line is followed no further (R4). A CLAIM is not retried, and its
claim slot closes with no claim. -/
def execSendAbort (s : State) : Host.Outcome State Fault Refusal :=
  .next
    (match s.port.onLine with
    | none => s
    | some x =>
      let t :=
        countStation
          (fun c => { c with sendAborts := satInc c.sendAborts, badBlocks := satInc c.badBlocks })
          { s with port := { s.port with onLine := none, receiveBuffer := none, idleWait := 8 } }
      if x.kind = .claim then (if t.port.slotOpen then closeNoClaim t else t) else attemptFailed x t)

/-- R4: recessive bit times to an idle bus after a bad block: 2 when it was followed to its end, 8 when it was
abandoned on a stuffing violation. -/
def idleAfterBad : BadCause → Nat
  | .crc => 2
  | .stuffing => 8

/-- BAD_BLOCK (R6, R13): the block is counted and ignored; in an open claim slot it closes the slot with no claim. -/
def execBadBlock (cause : BadCause) (s : State) : Host.Outcome State Fault Refusal :=
  .next
    (closeByOther
      (countStation (fun c => { c with badBlocks := satInc c.badBlocks })
        { s with port := { s.port with receiveBuffer := none, idleWait := idleAfterBad cause } }))

/-- CLAIM_SLOT_TIMEOUT (R13, R47): no block has started in the open claim slot, so it closes with no claim. -/
def execClaimSlotTimeout (s : State) : Host.Outcome State Fault Refusal :=
  .next (if s.port.slotOpen && !lineTaken s.port then closeNoClaim s else s)

/-- REPLY_OBSERVED (R7): stations read no REPLY; an own one that completed has left its slot. -/
def execReplyObserved (o : Observed) (s : State) : Host.Outcome State Fault Refusal :=
  .next
    (match observe .reply o s with
    | none => s
    | some (_, _, s) => s)

end Sys2Proof.Machine
end

