-- ==== Sys2Proof/Machine/Claims.lean ====
section
/-! DEFINITION. The commands of the send sequencer: OFFER and CLAIM, with the delivery bid (R12, R13, R36 to R64, R67). -/

namespace Sys2Proof.Machine

/-! ### The delivery bid (R54 to R60) -/

/-- R56: the effective send rate, the lower of the rate in effect and a pending target. -/
def effectiveRate (u : LineUnit) : Nat :=
  match u.svc.pendingTarget with
  | none => u.sendRate
  | some t => min u.sendRate t

/-- R54, R58: the bid of a pair for a payload of `len` bytes, exact and rounded up once. -/
def bidOf (len : Nat) (u : LineUnit) : Nat := ceilDiv ((backlog u + len + 10) * 250) (effectiveRate u) + u.delay

/-- R40, R54: the bid kept in the record: one for a pair in SERVICE, none for any other. -/
def recordedBid (len : Nat) (u : LineUnit) : Option Nat :=
  if u.state = .service then some (bidOf len u) else none

/-- R40: the six conditions of eligibility of pair `p` for an offer of `len` bytes. -/
def eligiblePair (len : Nat) (s : State) (p : Pair) : Bool :=
  let u := line s p
  u.state == .service && !u.los && decide (u.queue.length < quadGet (config s).sendLimit p) &&
    decide (poolUsed s < Config.poolSlots) && decide (bidOf len u ≤ (config s).ceiling)

/-- R41, R61: the eligible pair with the lowest bid, the lower pair index among equal ones; the list is in the order
of the index. -/
def bestOf (len : Nat) (s : State) : List Pair → Option Candidate
  | [] => none
  | p :: ps =>
    let rest := bestOf len s ps
    if eligiblePair len s p then
      let b := bidOf len (line s p)
      match rest with
      | none => some ⟨p, b⟩
      | some c => if b ≤ c.bid then some ⟨p, b⟩ else some c
    else rest

/-- R40, R41: the bidding record of an ACTIVE station for a well-formed offer of `len` bytes. -/
def biddingFor (len : Nat) (s : State) : Bidding where
  active := true
  eligible := quadOf (eligiblePair len s)
  bids := quadOf (fun p => recordedBid len (line s p))
  candidate := bestOf len s allPairs

/-- R39: the record of an offer judged while not ACTIVE: no bids, no candidate. -/
def biddingInactive : Bidding := ⟨false, .all false, .all none, none⟩

/-! ### Judging an offer (R37 to R41) -/

/-- R41: the CLAIM of station `k` with its NS `ns` for an offer of `len` bytes. -/
def claimBlock (k : StationNo) (ns : Seq) (len : Nat) (c : Candidate) : BusBlock where
  value := BitVec.ofNat 20 c.bid
  sender := stationAddress k
  pair := pairBits c.pair
  body := byte2 ns.toNat ++ byte2 len

/-- The sequencer with an offer judged. -/
def setJudged (phase : ClaimPhase) (v : OfferVerdict) (b : Option Bidding) (s : State) : State :=
  { s with sequencer := { s.sequencer with phase := phase, verdict := some v, bidding := b } }

/-- R39 to R41: a well-formed offer of `len` bytes is judged by an ACTIVE station. -/
def judgeActive (len : Nat) (s : State) : State :=
  let b := biddingFor len s
  match b.candidate, s.group.number, s.sequencer.ns with
  | some c, some k, some ns =>
    setJudged .claiming .wellFormed (some b) (placeBlock .claim (claimBlock k ns len c) s)
  | _, _, _ => setJudged .watching .wellFormed (some b) s

/-- R38, R39: the offer in the latch is judged. -/
def judgeOffer (o : LatchedOffer) (s : State) : State :=
  match offerVerdict o, o.header with
  | .wellFormed, some h =>
    if isActive s then judgeActive h.length s else setJudged .watching .wellFormed (some biddingInactive) s
  | _, _ =>
    setJudged .watching .malformed none
      (countStation (fun c => { c with malformed := satInc c.malformed }) s)

/-- R12, R13: a bridge OFFER fills the latch and opens a claim slot. -/
def latchOffer (o : LatchedOffer) (s : State) : State :=
  { s with port := { s.port with latch := some o, slotOpen := true } }

/-- OFFER (R12, R13, R37 to R41, R48). One from the bridge closes any open slot with no claim, and is latched and
judged in a slot of its own. One from a station address is counted as malformed and touches nothing else. Address 6
is discarded (R3). -/
def execOffer (blk : BusBlock) (s : State) : Host.Outcome State Fault Refusal :=
  .next
    (let t := blockEnded s
    if blk.sender = allStationsAddress then closeByOther t
    else
      let t := countStation (fun c => { c with offersSeen := c.offersSeen + 1 }) t
      if blk.sender != bridgeAddress then
        countStation (fun c => { c with malformed := satInc c.malformed }) t
      else
        let t := if t.port.slotOpen then closeNoClaim t else t
        judgeOffer (offerOfBody blk.body) (latchOffer (offerOfBody blk.body) t))

/-! ### Observing a CLAIM (R43 to R47, R50) -/

/-- R43: NS after an observed CLAIM carrying `q`, with the adoption counted. -/
def adoptNs (q : Seq) (s : State) : State :=
  let t :=
    if s.sequencer.ns = some q then s
    else countStation (fun c => { c with nsAdoptions := satInc c.nsAdoptions }) s
  { t with sequencer := { t.sequencer with ns := some (q + 1) } }

/-- R43, R22: what an admitted CLAIM carrying `q` does to NS or to the join NS, by mode. In CONFLICT only the
station's own CLAIM moves NS. -/
def claimNs (own : Bool) (q : Seq) (s : State) : State :=
  match s.group.mode with
  | .active => adoptNs q s
  | .conflict => if own then adoptNs q s else s
  | .listening => joinNs q s
  | _ => s

/-- R65, R67: the won fragment, from the latch, tagged with `q`. -/
def wonFragment (q : Seq) (o : LatchedOffer) : Option Fragment :=
  o.header.map (fun h => ⟨q, h.length, h.startMark, h.endMark, o.payload⟩)

/-- R67: the fragment joins the tail of the queue of its pair. -/
def appendFragment (f : Fragment) (u : LineUnit) : LineUnit := { u with queue := u.queue ++ [f] }

/-- R45: the winner hands the latched fragment to the pair its CLAIM named, or discards it as claimed-lost when the
pair has departed. -/
def deliverWon (p : Pair) (q : Seq) (s : State) : State :=
  match s.port.latch.bind (wonFragment q) with
  | none => s
  | some f =>
    if inService (line s p) then modLine p (appendFragment f) s
    else countStation (fun c => { c with claimedLost := satInc c.claimedLost }) s

/-- R42, R45: the slot closes with this station as the winner. -/
def closeWon (p : Pair) (q : Seq) (s : State) : State :=
  let s := countStation (fun c => { c with claimsWon := c.claimsWon + 1 }) s
  slotClosed (deliverWon p q s)

/-- R42, R46: the slot closes with another station's claim observed. -/
def closeClaimed (s : State) : State := slotClosed (countLost s)

/-- CLAIM (R43 to R47, R50). One that is admitted moves NS and closes an open slot, with this station as the winner
when it is its own attempt that completed. One that is not admitted is no claim in the slot it closes. -/
def execClaim (o : Observed) (s : State) : Host.Outcome State Fault Refusal :=
  .next
    (match observe .claim o s with
    | none => s
    | some (own, blk, s) =>
      let q := bodySeq blk.body 0
      if !claimAdmitted blk then closeByOther s
      else
        let t := claimNs own q s
        if !t.port.slotOpen then t
        else if own then closeWon (pairOfBits blk.pair) q t
        else if ownOnLine t.port .claim then t
        else closeClaimed t)

end Sys2Proof.Machine
end

