-- ==== Sys2Proof/Machine/GroupMonitor.lean ====
section
/-! DEFINITION. The commands of the group monitor and the two resets: PIN_RESET, CHAIN_IN_ASSERTED, START_RECORD_READ,
START_MEMORY_TIMEOUT, BUS_RESET, BUS_RELEASE, LISTENING_PERIOD_END, MARK, BEACON_EXPIRY. -/

namespace Sys2Proof.Machine

/-- PIN_RESET (R16, R34, R52, R79, R104, R141, R164, R178): every block at its pin reset values. The commands that
wait are outside the station and stay. -/
def execPinReset (s : State) : Host.Outcome State Fault Refusal :=
  .next { State.reset with pending := s.pending }

/-- CHAIN_IN_ASSERTED (R18, R19): WAITING gives way to READING; elsewhere the level has no effect. -/
def execChainInAsserted (s : State) : Host.Outcome State Fault Refusal :=
  .next
    (if s.group.mode = .waiting then
      { s with group := { s.group with mode := .reading, readTimer := .running Config.readLimit } }
    else s)

/-- START_RECORD_READ (R19): in READING the eighteen bytes have arrived; a good record is clamped and stored, and a
wrong sum stores the built-in defaults. Bytes that have all come in the very moment the 2 ms run out, before
START_MEMORY_TIMEOUT, are in time (DESIGN CHOICE, log 36). -/
def execStartRecordRead (record : BitVec 128) (sum : BitVec 16) (s : State) : Host.Outcome State Fault Refusal :=
  .next
    (if s.group.mode = .reading then
      if recordGood record sum then storeRecord (clampRecord record) false s else storeRecord .defaults true s
    else s)

/-- START_MEMORY_TIMEOUT (R19): in READING the start memory does not answer; the built-in defaults are stored. -/
def execStartMemoryTimeout (s : State) : Host.Outcome State Fault Refusal :=
  .next (if s.group.mode = .reading then storeRecord .defaults true s else s)

/-- R35: the group monitor at a bus reset. -/
def busResetGroup (g : GroupMonitor) : GroupMonitor :=
  match g.mode with
  | .waiting => g
  | .reading => g
  | _ => { g with mode := .listening, beacon := .stopped, table := .all .absent, join := .empty, listening := .held }

/-- R105: a line unit at a bus reset: held QUIET for an enabled pair, OFF for a disabled one. -/
def busResetLine (enabled : Bool) : LineUnit :=
  if enabled then .reset else { LineUnit.reset with state := .off, holdOff := .stopped }

/-- BUS_RESET (R15, R16, R35, R53, R80, R105, R142, R165, R178): every block takes its bus reset values, and the line
stays dominant until BUS_RELEASE. -/
def execBusReset (s : State) : Host.Outcome State Fault Refusal :=
  .next
    { s with
      port := { BusPort.reset with dominant := true }
      group := busResetGroup s.group
      sequencer := .reset
      lines := quadOf (fun p => busResetLine (quadGet (config s).enabled p))
      holdQueue := .reset
      release := .reset
      status := .reset
      timeBase := 0 }

/-- BUS_RELEASE (R15, R35): the line has returned to recessive, and a held listening period starts. -/
def execBusRelease (s : State) : Host.Outcome State Fault Refusal :=
  .next
    (if s.port.dominant then
      { s with
        port := { s.port with dominant := false }
        group :=
          { s.group with
            listening :=
              match s.group.listening with
              | .held => .running (listenPeriod s)
              | x => x } }
    else s)

/-- LISTENING_PERIOD_END (R23): a station that holds a number keeps it, one that holds none takes the lowest that was
not heard, and with all six heard it becomes SPARE. -/
def execListeningPeriodEnd (s : State) : Host.Outcome State Fault Refusal :=
  .next
    (match s.group.mode, s.group.listening with
    | .listening, .running 0 =>
      match s.group.number with
      | some k => enterActive k s
      | none =>
        match lowestFree s.group.join.heard with
        | some k => enterActive k s
        | none => enterSpare s
    | _, _ => s)

/-- R22: an admitted MARK in LISTENING: the number is heard, and the join values are those of the MARK. One taken in the very
moment of the period's end, before LISTENING_PERIOD_END, is heard in the period (DESIGN CHOICE, log 36). -/
def joinMark (k : StationNo) (blk : BusBlock) (s : State) : State :=
  { s with
    group.join := ⟨stationSet s.group.join.heard k true, some ⟨bodySeq blk.body 1, bodySeq blk.body 3⟩⟩ }

/-- R28: the entry of a peer after its admitted MARK, ABSENT to PRESENT not yet applied. -/
def heardEntry (blk : BusBlock) (t : PeerEntry) : PeerEntry :=
  { t with
    heard := inc15 t.heard
    missed := 0
    heardNow := true
    horizon := horizonOfBody blk.body
    capacity := markCapacity blk.body }

/-- R28, R30, R157: an admitted MARK of peer `k` at an ACTIVE station. The evidence skip is tested when the stored
horizon or the presence state has changed. -/
def markHeard (k : StationNo) (blk : BusBlock) (s : State) : State :=
  let old := stationGet s.group.table k
  let new := heardEntry blk old
  let appears := !old.present && decide (3 ≤ new.heard)
  let s := { s with group.table := stationSet s.group.table k { new with present := old.present || appears } }
  let s := if appears then recordEvent .peerPresent (stationIndex k) 0 s else s
  if appears || new.horizon != old.horizon then evidenceSkip s else s

/-- MARK (R27, R28, R22, R32): an own MARK that completed moves nothing here; a MARK through the receiver is applied
when it is admitted, after the number conflict test. -/
def execMark (o : Observed) (s : State) : Host.Outcome State Fault Refusal :=
  .next
    (match observe .mark o s with
    | none => s
    | some (own, blk, s) =>
      if own || !markAdmitted (config s).role blk then s
      else
        match stationOfAddress blk.sender with
        | none => s
        | some k =>
          match s.group.mode with
          | .listening => if s.group.number = some k then enterConflict s else joinMark k blk s
          | .active => if s.group.number = some k then enterConflict s else markHeard k blk s
          | _ => s)

/-- R29, R30: an entry at the end of a beacon interval. -/
def intervalEntry (t : PeerEntry) : PeerEntry :=
  if t.heardNow then { t with heardNow := false }
  else
    let t := { t with missed := inc15 t.missed, heard := 0 }
    if t.present && decide (4 ≤ t.missed) then { t with present := false, horizon := .unknown, capacity := 0 }
    else t

/-- R29, R30: the presence update of one peer, with the event when it becomes ABSENT. -/
def intervalPeer (s : State) (k : StationNo) : State :=
  if s.group.number = some k then s
  else
    let old := stationGet s.group.table k
    let new := intervalEntry old
    let t := { s with group.table := stationSet s.group.table k new }
    if old.present && !new.present then recordEvent .peerAbsent (stationIndex k) 0 t else t

/-- R29: the presence update of the five entries. -/
def presenceUpdate (s : State) : State := allStations.foldl intervalPeer s

/-- BEACON_EXPIRY (R25, R29): in ACTIVE the MARK is built and placed, the presence table is updated, and the evidence
skip is tested if a peer's presence has changed (R157). The timer runs on with its period. -/
def execBeaconExpiry (s : State) : Host.Outcome State Fault Refusal :=
  .next
    (match s.group.number with
    | none => s
    | some k =>
      if isActive s && isDue s.group.beacon then
        let t := { placeBlock .mark (markBlock k s) s with group.beacon := .running Config.beaconPeriod }
        let t := presenceUpdate t
        if allStations.any (fun j => (stationGet s.group.table j).present != (stationGet t.group.table j).present)
        then evidenceSkip t
        else t
      else s)

end Sys2Proof.Machine
end

