-- ==== Sys2Proof/Machine/TestSequence.lean ====
section
/-! DEFINITION. The test sequence that fills TEST bodies and PROBE fill bytes: a 15-stage shift register (R183). -/

namespace Sys2Proof.Machine

/-- The shift register, stage 1 in bit 0 and stage 15 in bit 14 (R183). -/
abbrev Stages := BitVec 15

/-- The register at the start: all stages one (R183). -/
def stagesStart : Stages := 0x7FFF

/-- The output bit: the exclusive-or of stages 15 and 14 (R183). -/
def stagesOut (r : Stages) : Bool := r.getLsbD 14 ^^ r.getLsbD 13

/-- One step: the output bit is shifted into stage 1 and every other stage moves up by one (R183). -/
def stagesNext (r : Stages) : Stages := (r <<< 1) ||| (if stagesOut r then 1 else 0)

/-- The register after `n` more steps. -/
def stagesAfter : Nat → Stages → Stages
  | 0, r => r
  | n + 1, r => stagesAfter n (stagesNext r)

/-- The next eight stream bits as a byte, the first in bit 7, and the register after them (R183). -/
def takeByte : Nat → Byte → Stages → Byte × Stages
  | 0, acc, r => (acc, r)
  | n + 1, acc, r => takeByte n ((acc <<< 1) ||| (if stagesOut r then 1 else 0)) (stagesNext r)

/-- The next `n` bytes of the stream from register `r`. -/
def streamBytes : Nat → Stages → List Byte
  | 0, _ => []
  | n + 1, r =>
    match takeByte 8 0 r with
    | (b, r') => b :: streamBytes n r'

/-- The length of the stream's period in bits (R183). -/
def streamPeriod : Nat := 32767

/-- `n` bytes of the test sequence from byte `k` on: stream bits 8k onward, the stream repeating every 32,767 bits
(R183). -/
def testBytes (k n : Nat) : List Byte := streamBytes n (stagesAfter (8 * k % streamPeriod) stagesStart)

/-- The body of the TEST frame with index `x`: bytes 118x to 118x + 117 (R100, R183). -/
def testBody (x : Seq) : List Byte := testBytes (118 * x.toNat) 118

/-- The 51 fill bytes of a PROBE (R182). -/
def probeFill : List Byte := testBytes 0 51

end Sys2Proof.Machine
end

