-- ==== Sys2Proof/Machine/LineRx.lean ====
section
/-! DEFINITION. The commands of a line unit's receiving side: FRAME_BAD_CRC and the good frames by kind (R74, R81, R88,
R91, R92, R94 to R96, R98, R99, R101 to R103, R114, R116, R119, R122, R124, R128 to R133, R182). -/

namespace Sys2Proof.Machine

/-! ### The checks every frame meets (R74, R128, R182) -/

/-- R74: a line unit in OFF or QUIET ignores frames. -/
def hears (u : LineUnit) : Bool := u.state != .off && u.state != .quiet

/-- R74: the frames a good frame's count shows as lost, g; none when no expected count is held. -/
def framesLost (u : LineUnit) (f : Frame) : Nat :=
  match u.rxExpected with
  | none => 0
  | some e => (f.count - e).toNat

/-- R74, R107: the marks a good frame with `g` lost frames leaves on the monitor period in SERVICE and WIND-DOWN. A frame taken
in the very moment of the period's end, before MONITOR_PERIOD_END, marks that period (DESIGN CHOICE, log 36). -/
def goodMarks (g : Nat) (u : LineUnit) : LineUnit :=
  { u with svc := { u.svc with good := true, errored := u.svc.errored || decide (0 < g) } }

/-- R101: whether the two counts of QUALIFY still run: in QUALIFY, before the own pass. -/
def counting (u : LineUnit) : Bool := u.state == .qualify && !u.qualify.ownPass

/-- R101: `n` more bad frames in QUALIFY before the own pass; at 5 QUALIFY fails. -/
def addBad (p : Pair) (n : Nat) (s : State) : State :=
  let t := modLine p (fun u => { u with qualify := { u.qualify with bad := u.qualify.bad + n } }) s
  if Config.failTests ≤ (line t p).qualify.bad then failQualify p .errors t else t

/-- R74, R101, R107: the frame count check of a good frame. -/
def checkCount (p : Pair) (f : Frame) (s : State) : State :=
  let g := framesLost (line s p) f
  let t := modLine p (fun u => { u with rxExpected := some (f.count + 1) }) s
  if inService (line t p) then
    countPair p (fun c => { c with lostFrames := satAdd c.lostFrames g }) (modLine p (goodMarks g) t)
  else if counting (line t p) then addBad p g t
  else t

/-- R74, R128: a bad frame in SERVICE and WIND-DOWN is counted and marks the monitor period; elsewhere it does
nothing. -/
def badFrame (p : Pair) (s : State) : State :=
  if inService (line s p) then
    countPair p (fun c => { c with badFrames := satInc c.badFrames })
      (modLine p (fun u => { u with svc := { u.svc with bad := true } }) s)
  else s

/-- R74: a good frame of no known size is checked for its count; `act` follows if the line unit still hears. A line unit
that the frame's own lost frames have failed acts on it no more: a FRAG that fails QUALIFY so is not counted as out of
state (DESIGN CHOICE, log 34). -/
def receiveCounted (p : Pair) (f : Frame) (act : State → State) (s : State) : State :=
  if hears (line s p) then
    let t := checkCount p f s
    if hears (line t p) then act t else t
  else s

/-- R74, R128, R182: a good frame of a kind: its count is checked, then its size, and then it is acted on. -/
def receive (k : FrameKind) (p : Pair) (f : Frame) (act : State → State) (s : State) : State :=
  receiveCounted p f (fun t => if frameSizeOk k f then act t else badFrame p t) s

/-- FRAME_BAD_CRC (R74, R88): in DETECT the lit run ends. -/
def execFrameBadCrc (p : Pair) (s : State) : Host.Outcome State Fault Refusal :=
  .next
    (if (line s p).state = .detect then modLine p (fun u => { u with litCount := 0, unlitCount := 0 }) s
    else badFrame p s)

/-- UNKNOWN_FRAME_KIND (R182): a good frame for R74 and R107, and no more. -/
def execUnknownFrameKind (p : Pair) (_kind : Byte) (f : Frame) (s : State) : Host.Outcome State Fault Refusal :=
  .next (receiveCounted p f id s)

/-! ### FRAG and IDLE -/

/-- R127: the entry a FRAG that arrives on pair `p` makes. -/
def fragEntry (p : Pair) (f : Frame) (now : Stamp) : HoldEntry :=
  ⟨frameSeq f, p, frameLength f, frameStartMark f, frameEndMark f, now, f.body⟩

/-- R129: the pair's side of a FRAG handed over: last-received sequence and counts. -/
def fragReceived (p : Pair) (f : Frame) (s : State) : State :=
  countPair p
    (fun c =>
      { c with
        fragsReceived := c.fragsReceived + 1
        bytesReceived := c.bytesReceived + BitVec.ofNat 40 (frameLength f) })
    (modLine p (fun u => { u with lastReceived := some (frameSeq f) }) s)

/-- R128 to R131, R142: a FRAG of good form is handed to the hold queue; in DETECT, TRAIN and QUALIFY it is out of
state. A pair that still waits out its own LEAVE at a station that is not ACTIVE hands nothing over. -/
def actFrag (p : Pair) (f : Frame) (s : State) : State :=
  if inService (line s p) then
    if isActive s then holdArrival (fragEntry p f s.timeBase) (fragReceived p f s) else s
  else countStation (fun c => { c with outOfState := satInc c.outOfState }) s

/-- FRAG (R128 to R133). -/
def execFrag (p : Pair) (f : Frame) (s : State) : Host.Outcome State Fault Refusal :=
  .next (receive .frag p f (actFrag p f) s)

/-- IDLE (R72): a good frame and nothing more. -/
def execIdle (p : Pair) (f : Frame) (s : State) : Host.Outcome State Fault Refusal :=
  .next (receive .idle p f id s)

/-! ### WAKE and PARAMS -/

/-- R88: a good WAKE or PARAMS lights the monitor period in DETECT, that of its end too when it comes in that moment before
MONITOR_PERIOD_END (DESIGN CHOICE, log 36). -/
def lightPeriod (u : LineUnit) : LineUnit := if u.state = .detect then { u with lit := true } else u

/-- WAKE (R88). -/
def execWake (p : Pair) (f : Frame) (s : State) : Host.Outcome State Fault Refusal :=
  .next (receive .wake p f (modLine p lightPeriod) s)

/-- The line unit with its working record of TRAIN changed. -/
def modTrain (f : TrainRecord → TrainRecord) (u : LineUnit) : LineUnit := { u with train := f u.train }

/-- R91: the end of the PARAMS phase: the cabinet end begins its search as sender, and the farm end waits as
receiver with PARAMS as its fill. -/
def endParams (role : Role) (u : LineUnit) : LineUnit :=
  if u.train.phase = .params ∧ u.farParams.isSome ∧ u.train.evidence then
    match role with
    | .cabinet => beginSearch u
    | .farm => modTrain (fun t => { t with phase := .receiving }) u
  else u

/-- R91: evidence that the far end holds this end's PARAMS. -/
def takeEvidence (role : Role) (u : LineUnit) : LineUnit :=
  endParams role (modTrain (fun t => { t with evidence := true }) u)

/-- R92: the search range and the far ceiling kept when both checks have passed. -/
def keepRange (lo hi ceiling : Nat) (u : LineUnit) : LineUnit :=
  { u with farCeiling := ceiling, train := { u.train with lo := lo, hi := hi } }

/-- R91, R92: the first good far PARAMS: stored, and checked for the role and then for the range. -/
def firstParams (p : Pair) (f : Frame) (s : State) : State :=
  let far := paramsOf f
  let t := modLine p (fun u => { u with farParams := some far }) s
  let lo := max (config s).minRate far.minRate
  let hi := min (config s).maxRate far.maxRate
  if far.role = roleByte (config s).role then failTraining p .roleClash t
  else if hi < lo then failTraining p .rangeClash t
  else modLine p (keepRange lo hi far.ceiling) t

/-- R91: a PARAMS in TRAIN: the first is stored and checked, and any may carry the evidence. -/
def trainParams (p : Pair) (f : Frame) (s : State) : State :=
  let t := if (line s p).farParams.isNone then firstParams p f s else s
  if (line t p).state = .train then
    modLine p
      (fun u => if frameYoursHeld f then takeEvidence (config s).role u else endParams (config s).role u) t
  else t

/-- PARAMS (R88, R91, R92). -/
def execParams (p : Pair) (f : Frame) (s : State) : Host.Outcome State Fault Refusal :=
  .next
    (receive .params p f
      (fun s =>
        if (line s p).state = .train then trainParams p f s else modLine p lightPeriod s) s)

/-! ### PROBE and VERDICT -/

/-- R95: the burst record after a good PROBE of burst `n`; none when the PROBE is ignored. An older burst's PROBE, or
one after the VERDICT, is ignored, and a newer burst's begins a record. -/
def judgeAfter (n : Nat) : Option BurstJudge → Option BurstJudge
  | none => some ⟨n, 1, false⟩
  | some j =>
    if j.burst < n then some ⟨n, 1, false⟩
    else if j.burst = n ∧ !j.judged then some { j with good := min 64 (j.good + 1) }
    else none

/-- R95: how long the window stays open after a good PROBE with index `i` below 63 at `rate`; R95 says nothing of an
index above 63 (free value). -/
def probeWindow (i rate : Nat) : Nat :=
  if i ≤ 63 then ceilDiv ((63 - i) * 16000) rate + Config.windowSlack else Config.probeWindowBeyond i rate

/-- R95: the receiver of a direction takes a good PROBE of a burst; the one with index 63 closes the window. One taken in the
very moment of the window's end, before its BURST_WINDOW_CLOSE, counts as before it (DESIGN CHOICE, log 36). -/
def judgeProbe (f : Frame) (u : LineUnit) : LineUnit :=
  let i := (frameSeq f).toNat
  match judgeAfter (bodyByte f.body 0) u.train.judge with
  | none => u
  | some j =>
    let v :=
      modTrain
        (fun t => { t with judge := some j, window := .running (probeWindow i (rateField (bodyWord f.body 1))) }) u
    if i = 63 then closeWindow v else v

/-- R96: a good PROBE of the second direction acknowledges the cabinet end's closing PROBE. -/
def probeAcks (role : Role) (u : LineUnit) : LineUnit :=
  if role = .cabinet ∧ u.train.phase = .closing then closingAcked role u else u

/-- R91, R95, R96: a good PROBE of a burst in TRAIN. The farm end stops sending PARAMS at the first of the search. -/
def trainProbe (role : Role) (f : Frame) (u : LineUnit) : LineUnit :=
  let v := probeAcks role (takeEvidence role u)
  if v.train.phase = .receiving then judgeProbe f (modTrain (fun t => { t with paramsFill := false }) v) else v

/-- PROBE (R91, R95, R96). -/
def execProbe (p : Pair) (f : Frame) (s : State) : Host.Outcome State Fault Refusal :=
  .next
    (receive .probe p f
      (fun s =>
        if (line s p).state = .train then modLine p (trainProbe (config s).role f) s else s) s)

/-- R96: whether a line unit in TRAIN is, or has been, the receiver of a direction, and so takes its closing PROBE:
the farm end after PARAMS, the cabinet end once its own direction has ended. -/
def takesClosing (role : Role) (u : LineUnit) : Bool :=
  match role, u.train.phase with
  | .farm, .params => false
  | .farm, _ => true
  | .cabinet, .receiving => true
  | .cabinet, .echo => true
  | .cabinet, _ => false

/-- R96: the trained receive rate recorded, and the closing VERDICT placed, in the place of one still pending (DESIGN
CHOICE, log 33). -/
def recordClosing (rate : Nat) (u : LineUnit) : LineUnit :=
  modTrain (fun t => { t with verdict := some (.closing rate), window := .stopped }) { u with trainedRecv := rate }

/-- R96: the first closing PROBE ends the direction: the farm end begins its search, the cabinet end enters ECHO. -/
def directionEnds (role : Role) (u : LineUnit) : LineUnit :=
  if u.train.phase = .receiving then
    match role with
    | .farm => beginSearch u
    | .cabinet => enterEcho u
  else u

/-- R96: a good closing PROBE in TRAIN. -/
def trainClosing (role : Role) (f : Frame) (u : LineUnit) : LineUnit :=
  let v := probeAcks role (takeEvidence role u)
  if takesClosing role v then directionEnds role (recordClosing (rateField (bodyWord f.body 1)) v) else v

/-- CLOSING_PROBE (R91, R96). -/
def execClosingProbe (p : Pair) (f : Frame) (s : State) : Host.Outcome State Fault Refusal :=
  .next
    (receive .probe p f
      (fun s =>
        if (line s p).state = .train then modLine p (trainClosing (config s).role f) s else s) s)

/-- R94: whether the line unit waits for the VERDICT of burst `n`. -/
def awaitsBurst (n : Nat) (u : LineUnit) : Bool :=
  u.train.phase == .sending && isRunning u.train.deadline && u.train.search.any (fun sr => sr.burst == n)

/-- VERDICT (R91, R94). -/
def execVerdict (p : Pair) (f : Frame) (s : State) : Host.Outcome State Fault Refusal :=
  .next
    (receive .verdict p f
      (fun s =>
        if (line s p).state = .train then
          let t := modLine p (takeEvidence (config s).role) s
          if awaitsBurst (frameSeq f).toNat (line t p) then burstResult p (verdictClean f) t else t
        else s) s)

/-- R96: the acknowledgement of the closing PROBE. -/
def trainAcked (role : Role) (u : LineUnit) : LineUnit :=
  let v := takeEvidence role u
  if v.train.phase = .closing then closingAcked role v else v

/-- CLOSING_VERDICT (R91, R96). -/
def execClosingVerdict (p : Pair) (f : Frame) (s : State) : Host.Outcome State Fault Refusal :=
  .next
    (receive .verdict p f
      (fun s => if (line s p).state = .train then modLine p (trainAcked (config s).role) s else s) s)

/-! ### ECHO-ASK and ECHO -/

/-- R96, R98: a good ECHO-ASK in TRAIN after PARAMS: the farm end's closing PROBE is acknowledged, t2 is noted and an
ECHO is placed. -/
def trainEchoAsk (role : Role) (now : Stamp) (u : LineUnit) : LineUnit :=
  if u.train.phase = .params then u
  else
    let v := if role = .farm ∧ u.train.phase = .closing then closingAcked role u else u
    modTrain (fun t => { t with echoReply := some now }) v

/-- ECHO_ASK (R96, R98). -/
def execEchoAsk (p : Pair) (f : Frame) (s : State) : Host.Outcome State Fault Refusal :=
  .next
    (receive .echoAsk p f
      (fun s =>
        if (line s p).state = .train then modLine p (trainEchoAsk (config s).role s.timeBase) s else s) s)

/-- R99: a good ECHO before the echo deadline: D is measured, once. One taken in the very moment of the deadline, before its
ECHO_TIMEOUT, counts as before it (DESIGN CHOICE, log 36). -/
def trainEcho (now : Stamp) (turnaround : Nat) (u : LineUnit) : LineUnit :=
  match u.train.t1 with
  | none => u
  | some t1 =>
    if isRunning u.train.echoDeadline && !u.train.measured then
      tryQualify
        { u with
          delay := pathDelay (now - t1).toNat turnaround u.trainedRecv
          train := { u.train with measured := true, echoDeadline := .stopped } }
    else u

/-- ECHO (R99). -/
def execEcho (p : Pair) (f : Frame) (s : State) : Host.Outcome State Fault Refusal :=
  .next
    (receive .echo p f
      (fun s =>
        if (line s p).state = .train then modLine p (trainEcho s.timeBase (bodyWord f.body 0)) s else s) s)

/-! ### TEST and QUALIFIED -/

/-- R101: the own pass, with QUALIFIED placed. -/
def ownPass (u : LineUnit) : LineUnit :=
  { u with qualify := { u.qualify with ownPass := true }, ctl := { u.ctl with qualified := true } }

/-- R101, R102: one more good TEST frame before the own pass; the 512th is the own pass, and the entry to SERVICE when
the far QUALIFIED has come. -/
def addGood (p : Pair) (margin : BitVec 6) (s : State) : State :=
  let t := modLine p (fun u => { u with qualify := { u.qualify with good := u.qualify.good + 1 } }) s
  if Config.passTests ≤ (line t p).qualify.good then
    let t := modLine p ownPass t
    if (line t p).qualify.farQualified then enterService p margin t else t
  else t

/-- TEST (R101, R102, R183). -/
def execTest (p : Pair) (f : Frame) (margin : BitVec 6) (s : State) : Host.Outcome State Fault Refusal :=
  .next
    (receive .test p f
      (fun s =>
        if counting (line s p) then
          if f.body = testBody (frameSeq f) then addGood p margin s else addBad p 1 s
        else s) s)

/-- QUALIFIED (R102): recorded, and with the own pass the entry to SERVICE. -/
def execQualified (p : Pair) (f : Frame) (margin : BitVec 6) (s : State) : Host.Outcome State Fault Refusal :=
  .next
    (receive .qualified p f
      (fun s =>
        if (line s p).state = .qualify then
          let t := modLine p (fun u => { u with qualify := { u.qualify with farQualified := true } }) s
          if (line t p).qualify.ownPass then enterService p margin t else t
        else s) s)

/-! ### Control frames of SERVICE and WIND-DOWN -/

/-- Whether a RATE-SWITCH of this line unit is on the pair (R114). -/
def rateSwitchOnPair (u : LineUnit) : Bool :=
  match u.tx with
  | some ⟨.rateSwitch _, _, _⟩ => true
  | _ => false

/-- R114: the target, clamped into the own min service rate to the trained send rate. -/
def askedTarget (minRate : Nat) (f : Frame) (u : LineUnit) : Nat :=
  clampNat minRate u.trainedSend (rateField (bodyWord f.body 0))

/-- R114: the target recorded as pending, with a RATE-SWITCH placed, or left to the end of the one on the pair. -/
def recordTarget (target : Nat) (u : LineUnit) : LineUnit :=
  { u with
    svc := { u.svc with pendingTarget := some target }
    ctl := if rateSwitchOnPair u then u.ctl else { u.ctl with rateSwitch := some target } }

/-- RATE_ASK (R114): ignored in WIND-DOWN. -/
def execRateAsk (p : Pair) (f : Frame) (s : State) : Host.Outcome State Fault Refusal :=
  .next
    (receive .rateAsk p f
      (fun s =>
        if (line s p).state = .service then
          modLine p (fun u => recordTarget (askedTarget (config s).minRate f u) u) s
        else s) s)

/-- R116: an outstanding request ends: its timer stops or its RATE-ASK is withdrawn, and both streaks are 0. -/
def endRequest (u : LineUnit) : LineUnit :=
  if u.svc.request then
    { u with
      ctl := { u.ctl with rateAsk := none }
      svc := { u.svc with request := false, reRateTimer := .stopped, downStreak := 0, upStreak := 0 } }
  else u

/-- RATE_SWITCH (R116). -/
def execRateSwitch (p : Pair) (f : Frame) (s : State) : Host.Outcome State Fault Refusal :=
  .next
    (receive .rateSwitch p f
      (fun s =>
        if inService (line s p) then
          modLine p
            (fun u => endRequest { u with recvRate := min u.trainedRecv (rateField (bodyWord f.body 0)) }) s
        else s) s)

/-- WIND_DOWN (R119). -/
def execWindDown (p : Pair) (f : Frame) (s : State) : Host.Outcome State Fault Refusal :=
  .next
    (receive .windDown p f
      (fun s => if (line s p).state = .service then startWindDown p .farRequest s else s) s)

/-- R122, R124: the count of a LEAVE in SERVICE or WIND-DOWN. -/
def countLeave (p : Pair) (s : State) : State :=
  countPair p (fun c => { c with leavesReceived := satInc c.leavesReceived }) s

/-- R122: the far LEAVE of a wind-down. -/
def farLeaves (u : LineUnit) : LineUnit :=
  { u with svc := { u.svc with windDown := u.svc.windDown.map (fun w => { w with farLeave := true }) } }

/-- R88, R103, R122, R124: a LEAVE by state. -/
def actLeave (p : Pair) (s : State) : State :=
  match (line s p).state with
  | .train => failTraining p .farLeave s
  | .qualify => failQualify p .farLeave s
  | .service => exitPair p .farLeave (countLeave p s)
  | .windDown => tryWindDownEnd p (modLine p farLeaves (countLeave p s))
  | .off => s
  | .quiet => s
  | .detect => s

/-- LEAVE (R88, R103, R122, R124). -/
def execLeave (p : Pair) (f : Frame) (s : State) : Host.Outcome State Fault Refusal :=
  .next (receive .leave p f (actLeave p) s)

end Sys2Proof.Machine
end

