-- ==== Sys2Proof/Machine/LineTimers.lean ====
section
/-! DEFINITION. The commands of a line unit's timers: HOLD_OFF_EXPIRY to SERVICE_CLOCK_60S (R84, R85, R88, R90, R94 to
R96, R99, R101, R107 to R113, R117, R123). Each has its effect when its timer is due in the state that runs it, and
none otherwise (log 2). -/

namespace Sys2Proof.Machine

/-- The state changed by `f` when the line unit of pair `p` meets `c`, and unchanged otherwise. -/
def whenLine (p : Pair) (c : LineUnit → Bool) (f : State → State) (s : State) : State :=
  if c (line s p) then f s else s

/-! ### Before service -/

/-- R84: whether the hold-off that the line unit waits out in QUIET is due. -/
def holdOffDue (u : LineUnit) : Bool :=
  match u.state, u.holdOff with
  | .quiet, .running 0 => true
  | _, _ => false

/-- HOLD_OFF_EXPIRY (R84, R87): QUIET gives way to DETECT. -/
def execHoldOffExpiry (p : Pair) (s : State) : Host.Outcome State Fault Refusal :=
  .next (whenLine p holdOffDue (modLine p (enterDetectLine s)) s)

/-- R88: the lit run at the end of a monitor period in DETECT. -/
def litPeriod (u : LineUnit) : LineUnit :=
  if u.lit then { u with litCount := u.litCount + 1, unlitCount := 0, lit := false }
  else if 4 ≤ u.unlitCount + 1 then { u with litCount := 0, unlitCount := 0 }
  else { u with unlitCount := u.unlitCount + 1 }

/-- R88: the end of a monitor period in DETECT; at the third lit period the line unit enters TRAIN. -/
def detectPeriod (s : State) (u : LineUnit) : LineUnit :=
  let v := litPeriod { u with monitor := .running Config.monitorPeriod }
  if 3 ≤ v.litCount then enterTrainLine s v else v

/-- DETECT_TIMEOUT (R88). -/
def execDetectTimeout (p : Pair) (s : State) : Host.Outcome State Fault Refusal :=
  .next (whenLine p (fun u => u.state == .detect && isDue u.detect) (failTraining p .detectTimeout) s)

/-- TRAINING_TIMEOUT (R90). -/
def execTrainingTimeout (p : Pair) (s : State) : Host.Outcome State Fault Refusal :=
  .next (whenLine p (fun u => u.state == .train && isDue u.training) (failTraining p .trainingTimeout) s)

/-- R94: whether the verdict deadline of a sender's burst is due. -/
def verdictDue (u : LineUnit) : Bool :=
  u.state == .train && u.train.phase == .sending && isDue u.train.deadline

/-- VERDICT_DEADLINE (R94): the burst has failed. -/
def execVerdictDeadline (p : Pair) (s : State) : Host.Outcome State Fault Refusal :=
  .next (whenLine p verdictDue (burstResult p false) s)

/-- BURST_WINDOW_CLOSE (R95). -/
def execBurstWindowClose (p : Pair) (s : State) : Host.Outcome State Fault Refusal :=
  .next (whenLine p (fun u => u.state == .train && isDue u.train.window) (modLine p closeWindow) s)

/-- R96: whether an unacknowledged closing PROBE is due to be sent again. -/
def closingDue (u : LineUnit) : Bool :=
  u.state == .train && u.train.phase == .closing && isDue u.train.closingWait

/-- R96: the closing PROBE is pending again. -/
def repeatClosing (u : LineUnit) : LineUnit :=
  { u with train := { u.train with closingPending := true, closingWait := .stopped } }

/-- CLOSING_PROBE_REPEAT (R96). -/
def execClosingProbeRepeat (p : Pair) (s : State) : Host.Outcome State Fault Refusal :=
  .next (whenLine p closingDue (modLine p repeatClosing) s)

/-- ECHO_TIMEOUT (R99). -/
def execEchoTimeout (p : Pair) (s : State) : Host.Outcome State Fault Refusal :=
  .next (whenLine p (fun u => u.state == .train && isDue u.train.echoDeadline) (failTraining p .echoTimeout) s)

/-- QUALIFICATION_TIMEOUT (R101). -/
def execQualificationTimeout (p : Pair) (s : State) : Host.Outcome State Fault Refusal :=
  .next (whenLine p (fun u => u.state == .qualify && isDue u.qualification) (failQualify p .timeLimit) s)

/-! ### Monitor periods in service (R107 to R110) -/

/-- R107: a period is dark when it saw no good frame. -/
def periodDark (r : ServiceRecord) : Bool := !r.good

/-- R107: a period is errored when it was dark, saw a bad CRC or is marked errored. -/
def periodErrored (r : ServiceRecord) : Bool := periodDark r || r.bad || r.errored

/-- R108: the LOS filter after a period, LOS on or off and the two runs. -/
def losFilter (dark : Bool) (u : LineUnit) : LineUnit :=
  if u.los then
    if dark then { u with svc := { u.svc with nonDarkRun := 0 } }
    else if 3 ≤ u.svc.nonDarkRun + 1 then
      { u with los := false, svc := { u.svc with nonDarkRun := 0, darkRun := 0 } }
    else { u with svc := { u.svc with nonDarkRun := u.svc.nonDarkRun + 1, darkRun := 0 } }
  else
    if dark then
      if 3 ≤ u.svc.darkRun + 1 then { u with los := true, svc := { u.svc with darkRun := 0, nonDarkRun := 0 } }
      else { u with svc := { u.svc with darkRun := u.svc.darkRun + 1, nonDarkRun := 0 } }
    else { u with svc := { u.svc with darkRun := 0 } }

/-- R109: the LOS hold timer at a change of LOS; it runs in SERVICE only. -/
def losHoldAtChange (hold : Nat) (u : LineUnit) : LineUnit :=
  { u with
    svc :=
      { u.svc with
        losHold := if u.los && u.state == .service then .running (hold * Config.ms) else .stopped } }

/-- R108, R109: a judged period goes to the LOS filter, and a change of LOS is handed over as an event. -/
def judgeLos (p : Pair) (dark : Bool) (s : State) : State :=
  let old := line s p
  let new := losFilter dark old
  if new.los = old.los then setLine p new s
  else
    recordEvent (if new.los then .losOn else .losOff) (pairIndex p) 0
      (setLine p (losHoldAtChange (config s).losHold new) s)

/-- R110: the errored window after a period, and whether it closes with its threshold reached. -/
def windowAfter (threshold : Nat) (errored : Bool) (r : ServiceRecord) : ServiceRecord × Bool :=
  let n := r.windowErrored + (if errored then 1 else 0)
  if Config.windowPeriods ≤ r.windowPeriods + 1 then
    ({ r with windowPeriods := 0, windowErrored := 0 }, decide (threshold ≤ n))
  else ({ r with windowPeriods := r.windowPeriods + 1, windowErrored := n }, false)

/-- R110: a judged period goes to the errored window, which runs in SERVICE only. -/
def judgeWindow (p : Pair) (errored : Bool) (s : State) : State :=
  let u := line s p
  if u.state = .service then
    match windowAfter (config s).errorThreshold errored u.svc with
    | (r, reached) =>
      let t := setLine p { u with svc := r } s
      if reached then startWindDown p .errors t else t
  else s

/-- R107: the marks cleared for the next period, which begins at once. -/
def nextPeriod (u : LineUnit) : LineUnit :=
  { u with
    monitor := .running Config.monitorPeriod
    svc := { u.svc with good := false, bad := false, errored := false } }

/-- R107, R108, R110: the end of a monitor period in SERVICE or WIND-DOWN. -/
def servicePeriod (p : Pair) (s : State) : State :=
  let r := (line s p).svc
  let s := modLine p nextPeriod s
  let s :=
    if periodErrored r then countPair p (fun c => { c with erroredPeriods := satInc c.erroredPeriods }) s else s
  judgeWindow p (periodErrored r) (judgeLos p (periodDark r) s)

/-- MONITOR_PERIOD_END (R88, R107, R108, R110). -/
def execMonitorPeriodEnd (p : Pair) (s : State) : Host.Outcome State Fault Refusal :=
  .next
    (whenLine p (fun u => isDue u.monitor)
      (fun s =>
        if (line s p).state = .detect then modLine p (detectPeriod s) s
        else if inService (line s p) then servicePeriod p s
        else s) s)

/-- LOS_HOLD_EXPIRY (R109): the pair exits with the reason LOS LOSS. -/
def execLosHoldExpiry (p : Pair) (s : State) : Host.Outcome State Fault Refusal :=
  .next (whenLine p (fun u => u.state == .service && isDue u.svc.losHold) (exitPair p .losLoss) s)

/-! ### Re-rate checks (R111 to R113, R117) -/

/-- R112: the down target, R - ceil(R / 4). -/
def downTarget (rate : Nat) : Nat := rate - ceilDiv rate 4

/-- R112: the up target, the lower of the trained receive rate and R + ceil(R / 8). -/
def upTarget (trained rate : Nat) : Nat := min trained (rate + ceilDiv rate 8)

/-- R111: the two streaks after a check at margin `m`, down then up. -/
def streaksAfter (m : Nat) (u : LineUnit) : Nat × Nat :=
  if u.svc.request then (0, 0)
  else if m < 6 then (u.svc.downStreak + 1, 0)
  else if 18 < m ∧ u.recvRate < u.trainedRecv then (0, u.svc.upStreak + 1)
  else (0, 0)

/-- R111: the line unit after a check: the margin current, the streaks updated, the timer at its interval again. -/
def checkedLine (interval : Nat) (margin : BitVec 6) (u : LineUnit) : LineUnit :=
  { u with
    margin := margin.toNat
    svc :=
      { u.svc with
        reRateCheck := .running interval
        downStreak := (streaksAfter margin.toNat u).1
        upStreak := (streaksAfter margin.toNat u).2 } }

/-- R112, R113: a re-rate request for `target`: the RATE-ASK is placed and both streaks return to 0. -/
def requestRate (target : Nat) (u : LineUnit) : LineUnit :=
  { u with
    ctl := { u.ctl with rateAsk := some target }
    svc := { u.svc with request := true, downStreak := 0, upStreak := 0 } }

/-- R112: what a check that has updated the streaks leads to. -/
def actOnStreaks (p : Pair) (s : State) : State :=
  let u := line s p
  if 3 ≤ u.svc.downStreak then
    if (config s).minRate ≤ downTarget u.recvRate then modLine p (requestRate (downTarget u.recvRate)) s
    else startWindDown p .margin s
  else if 3 ≤ u.svc.upStreak then modLine p (requestRate (upTarget u.trainedRecv u.recvRate)) s
  else s

/-- R111: the re-rate check interval, 2^n × 64 ms. -/
def checkInterval (s : State) : Nat := 2 ^ (config s).reRateExp * 64 * Config.ms

/-- RE_RATE_CHECK (R111 to R113). -/
def execReRateCheck (p : Pair) (margin : BitVec 6) (s : State) : Host.Outcome State Fault Refusal :=
  .next
    (whenLine p (fun u => u.state == .service && isDue u.svc.reRateCheck)
      (fun s => actOnStreaks p (modLine p (checkedLine (checkInterval s) margin) s)) s)

/-- RE_RATE_TIMEOUT (R117): the outstanding request ends, and a wind-down starts. -/
def execReRateTimeout (p : Pair) (s : State) : Host.Outcome State Fault Refusal :=
  .next
    (whenLine p (fun u => u.state == .service && u.svc.request && isDue u.svc.reRateTimer)
      (startWindDown p .reRateTimeout) s)

/-! ### The wind-down limit and the service clock -/

/-- R123: whether the wind-down limit is due. -/
def windDownDue (u : LineUnit) : Bool :=
  match u.svc.windDown with
  | some w => u.state == .windDown && isDue w.timer
  | none => false

/-- WIND_DOWN_LIMIT (R123): the pair exits, or with its own LEAVE on the pair exits at that LEAVE's end. -/
def execWindDownLimit (p : Pair) (s : State) : Host.Outcome State Fault Refusal :=
  .next
    (whenLine p windDownDue
      (fun s =>
        if ownLeaveOnPair (line s p) then modLine p (deferExit .windDownLimit) s
        else exitPair p .windDownLimit s) s)

/-- SERVICE_CLOCK_60S (R85): k is 0, and the clock stops. -/
def execServiceClock60s (p : Pair) (s : State) : Host.Outcome State Fault Refusal :=
  .next
    (whenLine p (fun u => inService u && isDue u.serviceClock)
      (modLine p (fun u => { u with k := 0, serviceClock := .stopped })) s)

end Sys2Proof.Machine
end

