-- ==== Sys2Proof/Machine/LineTx.lean ====
section
/-! DEFINITION. The commands of a line unit's transmitter. Each command but FRAME_BOUNDARY is the end of a frame of its kind;
the choice of the next frame, in the same moment, is FRAME_BOUNDARY's (R68, R69, R75, log 8). FRAME_BOUNDARY also ends a
frame still on the pair. -/

namespace Sys2Proof.Machine

/-- FRAME_BOUNDARY (R68, R69, R89, R100). -/
def execFrameBoundary (p : Pair) (s : State) : Host.Outcome State Fault Refusal := .next (boundary p s)

/-- Whether the frame is a FRAG. -/
def isFrag : TxContent → Bool
  | .frag _ => true
  | _ => false

/-- Whether the frame is a RATE-SWITCH. -/
def isRateSwitch : TxContent → Bool
  | .rateSwitch _ => true
  | _ => false

/-- Whether the frame is a RATE-ASK. -/
def isRateAsk : TxContent → Bool
  | .rateAsk _ => true
  | _ => false

/-- Whether the frame is an ECHO-ASK. -/
def isEchoAsk : TxContent → Bool
  | .echoAsk => true
  | _ => false

/-- Whether the frame is an ECHO. -/
def isEcho : TxContent → Bool
  | .echo _ => true
  | _ => false

/-- Whether the frame is a closing PROBE. -/
def isClosingProbe : TxContent → Bool
  | .closingProbe _ => true
  | _ => false

/-- Whether the frame is a LEAVE. -/
def isLeave : TxContent → Bool
  | .leave => true
  | _ => false

/-- FRAG_COMPLETE (R75, R69): the head fragment has gone out. -/
def execFragComplete (p : Pair) (s : State) : Host.Outcome State Fault Refusal := .next (endOf isFrag p s)

/-- RATE_SWITCH_SENT (R115): the carried rate takes effect. -/
def execRateSwitchSent (p : Pair) (s : State) : Host.Outcome State Fault Refusal :=
  .next (endOf isRateSwitch p s)

/-- RATE_ASK_SENT (R113): the re-rate timer starts. -/
def execRateAskSent (p : Pair) (s : State) : Host.Outcome State Fault Refusal := .next (endOf isRateAsk p s)

/-- ECHO_ASK_SENT (R98): t1 is noted, and the echo deadline starts. -/
def execEchoAskSent (p : Pair) (s : State) : Host.Outcome State Fault Refusal := .next (endOf isEchoAsk p s)

/-- ECHO_SENT (R99): the answer to the far ECHO-ASK has gone out. -/
def execEchoSent (p : Pair) (s : State) : Host.Outcome State Fault Refusal := .next (endOf isEcho p s)

/-- CLOSING_PROBE_SENT (R96): the wait for the acknowledgement starts. -/
def execClosingProbeSent (p : Pair) (s : State) : Host.Outcome State Fault Refusal :=
  .next (endOf isClosingProbe p s)

/-- OWN_LEAVE_SENT (R121 to R123, R77): a LEAVE has gone out; the own LEAVE of a wind-down ends, and after a parting
LEAVE the transmitter is silent. -/
def execOwnLeaveSent (p : Pair) (s : State) : Host.Outcome State Fault Refusal := .next (endOf isLeave p s)

end Sys2Proof.Machine
end

