-- ==== Sys2Proof/Machine/Release.lean ====
section
/-! DEFINITION. The commands of the release controller: RELEASE, SKIP, REBASE, HOLD_ON, HOLD_OFF, SKIP_TIMER_EXPIRY and
HOLD_LIMIT_EXPIRY (R143 to R163). -/

namespace Sys2Proof.Machine

/-- E and BROKEN after an observed block that names `q` (R146 to R148). -/
def setE (q : Seq) (broken : Bool) (s : State) : State :=
  { s with release := { s.release with e := some (q + 1), broken := broken } }

/-- R146, R149: an admitted RELEASE at an ACTIVE station. -/
def releaseActive (own : Bool) (blk : BusBlock) (s : State) : State :=
  let q := valueSeq blk.value
  let s :=
    if own then countStation (fun c => { c with releasesSent := c.releasesSent + 1 }) (removeEntry q s) else s
  moveE (setE q (if releaseEndMark blk then false else releaseBroken blk) (countEAdoption q s))

/-- RELEASE (R146, R22, R144). -/
def execRelease (o : Observed) (s : State) : Host.Outcome State Fault Refusal :=
  .next
    (match observe .release o s with
    | none => s
    | some (own, blk, s) =>
      if !releaseAdmitted blk then s
      else
        match s.group.mode with
        | .active => releaseActive own blk s
        | .listening => joinE (valueSeq blk.value) s
        | _ => s)

/-- R147, R149: a SKIP at an ACTIVE station. -/
def skipActive (own : Bool) (blk : BusBlock) (s : State) : State :=
  let q := valueSeq blk.value
  let s :=
    if own then countStation (fun c => { c with skipsSent := satInc c.skipsSent }) s
    else countStation (fun c => { c with skipsObserved := satInc c.skipsObserved }) s
  moveE (setE q true (countEAdoption q s))

/-- SKIP (R147, R22, R144). -/
def execSkip (o : Observed) (s : State) : Host.Outcome State Fault Refusal :=
  .next
    (match observe .skip o s with
    | none => s
    | some (own, blk, s) =>
      if !stationSent blk then s
      else
        match s.group.mode with
        | .active => skipActive own blk s
        | .listening => joinE (valueSeq blk.value) s
        | _ => s)

/-- R148, R139, R149: a REBASE at an ACTIVE station. -/
def rebaseActive (own : Bool) (blk : BusBlock) (s : State) : State :=
  let q := valueSeq blk.value
  let s :=
    if own then countStation (fun c => { c with rebasesSent := satInc c.rebasesSent }) s
    else countStation (fun c => { c with rebasesObserved := satInc c.rebasesObserved }) s
  moveE (setE q true { s with holdQueue.runaway := 0 })

/-- REBASE (R148, R22, R144). -/
def execRebase (o : Observed) (s : State) : Host.Outcome State Fault Refusal :=
  .next
    (match observe .rebase o s with
    | none => s
    | some (own, blk, s) =>
      if !stationSent blk then s
      else
        match s.group.mode with
        | .active => rebaseActive own blk s
        | .listening => joinE (valueSeq blk.value) s
        | _ => s)

/-- R144, R159: HOLD blocks are applied in LISTENING and ACTIVE. -/
def hearsHold (s : State) : Bool := s.group.mode == .listening || s.group.mode == .active

/-- R159, R160: HOLD(on) applied: HOLD on, the hold-limit timer started with the full hold limit. -/
def applyHoldOn (s : State) : State :=
  let t := if isActive s && !s.release.hold then holdTurnsOn s else s
  { t with
    release :=
      { t.release with hold := true, holdTimer := .running ((config s).holdLimit * Config.ms) } }

/-- R159, R160, R161: HOLD turns off, and an ACTIVE station releases and skips again. -/
def applyHoldOff (s : State) : State :=
  let t := { s with release := { s.release with hold := false, holdTimer := .stopped } }
  if isActive s then holdTurnsOff t else t

/-- HOLD_ON (R159, R160). The block has its effect when it comes from the bridge and its body names on. -/
def execHoldOn (blk : BusBlock) (s : State) : Host.Outcome State Fault Refusal :=
  .next
    (let t := closeByOther (blockEnded s)
    if hearsHold t && holdNamed blk == some true then applyHoldOn t else t)

/-- HOLD_OFF (R159, R160). The block has its effect when it comes from the bridge, its body names off and HOLD is
on. -/
def execHoldOff (blk : BusBlock) (s : State) : Host.Outcome State Fault Refusal :=
  .next
    (let t := closeByOther (blockEnded s)
    if hearsHold t && holdNamed blk == some false && t.release.hold then applyHoldOff t else t)

/-- SKIP_TIMER_EXPIRY (R152, R154): the running skip timer has reached 0, becomes EXPIRED, and SKIP(E) is placed. A timer
loaded again in the same moment has time left, and no SKIP is placed (R163). -/
def execSkipTimerExpiry (s : State) : Host.Outcome State Fault Refusal :=
  .next
    (match s.release.skipTimer with
    | .running 0 => placeSkip { s with release.skipTimer := .expired }
    | _ => s)

/-- HOLD_LIMIT_EXPIRY (R161): the hold-limit timer has reached 0 with HOLD on: a hold overrun is counted and HOLD turns
off. A timer that a HOLD has stopped or started again in the same moment is not due (R163). -/
def execHoldLimitExpiry (s : State) : Host.Outcome State Fault Refusal :=
  .next
    (if s.release.hold && isDue s.release.holdTimer then
      applyHoldOff (countStation (fun c => { c with holdOverruns := satInc c.holdOverruns }) s)
    else s)

end Sys2Proof.Machine
end

