-- ==== Sys2Proof/Machine/Status.lean ====
section
/-! DEFINITION. The QUERY commands of the status unit: IDENTITY, STATION, PAIR, COUNTERS, SNAPSHOT, EVENTS, RING_FREEZE,
RING_THAW and UNKNOWN_ITEM, and the contents of their REPLYs (R167 to R172, R181). -/

namespace Sys2Proof.Machine

/-! ### Fields of a REPLY (R181) -/

/-- A two-byte number, FFFFh for none. -/
def orNone2 (x : Option Nat) : List Byte :=
  match x with
  | some n => byte2 n
  | none => [0xFF, 0xFF]

/-- A field preceded by 01h when it holds a value, and by 00h and sent as all ones when it is none. -/
def tagged (width : Nat) (enc : Nat → List Byte) (x : Option Nat) : List Byte :=
  match x with
  | some n => 0x01 :: enc n
  | none => 0x00 :: List.replicate width 0xFF

/-- A 16-bit counter in two bytes. -/
def satBytes (c : SatCount) : List Byte := byte2 c.toNat
/-- A 32-bit counter in four bytes. -/
def wrapBytes (c : WrapCount) : List Byte := byte4 c.toNat
/-- A 40-bit counter in five bytes. -/
def byteBytes (c : ByteCount) : List Byte := byte5 c.toNat

/-- R168: the contents of IDENTITY: part code 412, silicon revision 1, station number, end role, defaults-in-use
flag. -/
def identityContents (s : State) : List Byte :=
  byte2 412 ++ byte1 1 ++ byte1 ((s.group.number.map stationIndex).getD 255) ++ [roleByte (config s).role] ++
    [flagByte s.group.defaultsInUse]

/-- R140, R168: the head entry's S, pair and age, or none. -/
def headContents (s : State) : List Byte :=
  match s.holdQueue.entries with
  | [] => orNone2 none ++ [0xFF] ++ tagged 4 byte4 none
  | h :: _ => byte2 h.seq.toNat ++ byte1 (pairIndex h.pair) ++ tagged 4 byte4 (some (s.timeBase - h.stamp).toNat)

/-- R168: what STATION reports of one peer: state, heard count, missed count, stored capacity. -/
def peerContents (t : PeerEntry) : List Byte :=
  [flagByte t.present] ++ byte1 t.heard ++ byte1 t.missed ++ byte2 t.capacity

/-- R168: the contents of STATION, the peers in the order of their numbers. The value bytes of an OPEN or UNKNOWN own horizon
are 0, as in a MARK (DEDUCED, log 39). -/
def stationContents (s : State) : List Byte :=
  byte1 (modeCode s.group.mode) ++ orNone2 (s.sequencer.ns.map (·.toNat)) ++
    orNone2 (s.release.e.map (·.toNat)) ++ [flagByte s.release.broken] ++ [flagByte s.release.hold] ++
    byte1 (poolUsed s) ++ byte1 s.holdQueue.entries.length ++ headContents s ++ horizonBytes (ownHorizon s) ++
    ((allStations.filter (fun k => some k != s.group.number)).map
      (fun k => peerContents (stationGet s.group.table k))).flatten ++
    byte2 (groupCapacity s)

/-- R169: the contents of PAIR for one line unit. -/
def pairContents (u : LineUnit) : List Byte :=
  byte1 (lineStateCode u.state) ++ [flagByte u.los] ++ byte2 u.sendRate ++ orNone2 u.svc.pendingTarget ++
    byte2 u.recvRate ++ byte2 u.trainedSend ++ byte2 u.trainedRecv ++ byte2 u.delay ++ byte3 u.farCeiling ++
    byte1 u.k ++ byte1 u.queue.length ++ byte2 (backlog u) ++ orNone2 (u.lastReceived.map (·.toNat)) ++
    byte2 u.margin

/-- R174: the counters of group `g`, 0 to 3, in the order of the table. -/
def stationGroup (g : Nat) (c : StationCounters) : List Byte :=
  match g with
  | 0 => satBytes c.badBlocks ++ satBytes c.sendAborts ++ satBytes c.droppedBlocks
  | 1 =>
    wrapBytes c.offersSeen ++ satBytes c.malformed ++ wrapBytes c.unclaimed ++ wrapBytes c.claimsWon ++
      wrapBytes c.claimsLost ++ satBytes c.claimedLost ++ satBytes c.nsAdoptions
  | 2 =>
    wrapBytes c.accepted ++ satBytes c.duplicates ++ satBytes c.stale ++ satBytes c.farAhead ++
      satBytes c.overflows ++ satBytes c.outOfState
  | _ =>
    wrapBytes c.releasesSent ++ satBytes c.skipsSent ++ satBytes c.skipsObserved ++ satBytes c.rebasesSent ++
      satBytes c.rebasesObserved ++ satBytes c.eAdoptions ++ satBytes c.holdOverruns

/-- R175: the counters of a pair in the order of the table. -/
def pairGroup (c : PairCounters) : List Byte :=
  wrapBytes c.fragsSent ++ byteBytes c.bytesSent ++ wrapBytes c.fragsReceived ++ byteBytes c.bytesReceived ++
    satBytes c.badFrames ++ satBytes c.lostFrames ++ wrapBytes c.idleFrames ++ satBytes c.erroredPeriods ++
    satBytes c.serviceEntries ++ satBytes c.downRates ++ satBytes c.upRates ++ satBytes c.windDownErrors ++
    satBytes c.windDownMargin ++ satBytes c.windDownReRate ++ satBytes c.windDownFar ++ satBytes c.losLosses ++
    satBytes c.leavesReceived ++ satBytes c.trainingFailures ++ satBytes c.qualificationFailures ++
    wrapBytes c.discarded

/-- R171: the counters of group `g`, 0 to 7. -/
def groupBytes (g : Nat) (c : CounterSet) : List Byte :=
  match g with
  | 4 => pairGroup c.pairs.a
  | 5 => pairGroup c.pairs.b
  | 6 => pairGroup c.pairs.c
  | 7 => pairGroup c.pairs.d
  | _ => stationGroup g c.station

/-- R171: the contents of COUNTERS: the snapshot tag and stamp, and the snapshot values of the group. -/
def countersContents (g : Nat) (s : State) : List Byte :=
  tagged 1 byte1 (s.status.snapTag.map (·.toNat)) ++ tagged 4 byte4 (s.status.snapStamp.map (·.toNat)) ++
    groupBytes g s.status.snap

/-- R181: an event entry in eight bytes. -/
def eventBytes (x : RingEvent) : List Byte :=
  byte1 (eventCode x.kind) ++ byte1 x.subject ++ byte2 x.value ++ byte4 x.stamp.toNat

/-- R172: the contents of EVENTS: the entry at place `i`, or an empty one, the number stored, the freeze flag and the
events-missed count. -/
def eventsContents (i : Nat) (s : State) : List Byte :=
  (match s.status.ring[i]? with
    | some x => eventBytes x
    | none => List.replicate 8 0xFF) ++
    byte1 s.status.ring.length ++ [flagByte s.status.frozen] ++ satBytes s.status.missed

/-- R172: the contents of RING-FREEZE and RING-THAW: the number stored and the events-missed count. -/
def ringContents (s : State) : List Byte := byte1 s.status.ring.length ++ satBytes s.status.missed

/-! ### Taking a QUERY (R167) -/

/-- The destination byte of a QUERY body. -/
def queryDest (blk : BusBlock) : Nat := bodyByte blk.body 0
/-- The argument byte of a QUERY body. -/
def queryArg (blk : BusBlock) : Byte := blk.body.getD 2 0

/-- Whether the block is a QUERY whose body holds the destination, the item code and the argument (R3, R167). -/
def queryWhole (blk : BusBlock) : Bool := blk.sender == bridgeAddress && decide (3 ≤ blk.body.length)

/-- Whether the destination is the station's own number (R167). -/
def queryForMe (blk : BusBlock) (s : State) : Bool :=
  match s.group.number with
  | some k => queryDest blk == stationIndex k
  | none => false

/-- R167: any QUERY but a SNAPSHOT is taken by the ACTIVE station whose number is the destination. -/
def queryTaken (blk : BusBlock) (s : State) : Bool := queryWhole blk && isActive s && queryForMe blk s

/-- R170: a SNAPSHOT is taken in every mode when the destination is 6 or the own number. -/
def snapshotTaken (blk : BusBlock) (s : State) : Bool :=
  queryWhole blk && (queryDest blk == 6 || queryForMe blk s)

/-- R167, R181: the REPLY to a taken QUERY, placed in its slot: the item code and argument, the result, and the
contents. `none` stands for UNKNOWN ITEM. -/
def placeReply (item : Byte) (blk : BusBlock) (contents : Option (List Byte)) (s : State) : State :=
  match s.group.number with
  | none => s
  | some k =>
    placeBlock .reply
      ⟨0, stationAddress k, 0,
        match contents with
        | some c => [item, queryArg blk, 0x00] ++ c
        | none => [item, queryArg blk, 0x01]⟩ s

/-- R13, R167: an observed QUERY of the item: the block's end, and if it is taken the REPLY, built at once. -/
def answerQuery (item : Byte) (blk : BusBlock) (contents : State → Option (List Byte)) (s : State) : State :=
  let t := closeByOther (blockEnded s)
  if queryTaken blk t then placeReply item blk (contents t) t else t

/-- IDENTITY (R168). -/
def execIdentity (blk : BusBlock) (s : State) : Host.Outcome State Fault Refusal :=
  .next (answerQuery 0x01 blk (fun t => some (identityContents t)) s)

/-- STATION (R168). -/
def execStation (blk : BusBlock) (s : State) : Host.Outcome State Fault Refusal :=
  .next (answerQuery 0x02 blk (fun t => some (stationContents t)) s)

/-- R169: the pair a PAIR argument names, if it lies in 0 to 3. -/
def pairOfArg (n : Nat) : Option Pair := allPairs[n]?

/-- PAIR (R169): an argument from 4 upward is answered UNKNOWN ITEM. -/
def execPair (blk : BusBlock) (s : State) : Host.Outcome State Fault Refusal :=
  .next
    (answerQuery 0x03 blk
      (fun t => (pairOfArg (queryArg blk).toNat).map (fun p => pairContents (line t p))) s)

/-- COUNTERS (R171): an argument from 8 upward is answered UNKNOWN ITEM. -/
def execCounters (blk : BusBlock) (s : State) : Host.Outcome State Fault Refusal :=
  .next
    (answerQuery 0x04 blk
      (fun t => if (queryArg blk).toNat < 8 then some (countersContents (queryArg blk).toNat t) else none) s)

/-- SNAPSHOT (R170, R186): every live counter is copied, the tag and the stamp stored; no REPLY. Of a SNAPSHOT that closes an
open claim slot, R170 leaves open whether the counts of the close are in the copy: here the slot closes first, and they
are (DESIGN CHOICE, log 31). -/
def execSnapshot (blk : BusBlock) (s : State) : Host.Outcome State Fault Refusal :=
  .next
    (let t := closeByOther (blockEnded s)
    if snapshotTaken blk t then
      { t with
        status :=
          { t.status with
            snap := t.status.live
            snapTag := some (queryArg blk)
            snapStamp := some t.timeBase } }
    else t)

/-- EVENTS (R172): an argument from 16 upward is answered UNKNOWN ITEM. -/
def execEvents (blk : BusBlock) (s : State) : Host.Outcome State Fault Refusal :=
  .next
    (answerQuery 0x06 blk
      (fun t => if (queryArg blk).toNat < 16 then some (eventsContents (queryArg blk).toNat t) else none) s)

/-- R172: the freeze flag set by a taken RING-FREEZE or RING-THAW, and its REPLY. -/
def setFreeze (flag : Bool) (item : Byte) (blk : BusBlock) (s : State) : State :=
  let t := closeByOther (blockEnded s)
  if queryTaken blk t then
    let t := { t with status.frozen := flag }
    placeReply item blk (some (ringContents t)) t
  else t

/-- RING_FREEZE (R172). -/
def execRingFreeze (blk : BusBlock) (s : State) : Host.Outcome State Fault Refusal :=
  .next (setFreeze true 0x07 blk s)

/-- RING_THAW (R172). -/
def execRingThaw (blk : BusBlock) (s : State) : Host.Outcome State Fault Refusal :=
  .next (setFreeze false 0x08 blk s)

/-- UNKNOWN_ITEM (R167): a taken QUERY whose item code names no item. -/
def execUnknownItem (blk : BusBlock) (s : State) : Host.Outcome State Fault Refusal :=
  .next (answerQuery (blk.body.getD 1 0) blk (fun _ => none) s)

end Sys2Proof.Machine
end

