-- ==== Sys2Proof/Machine/Dispatch.lean ====
section
/-! DEFINITION. The meaning of every command: one arm per constructor, each a direct call. -/

namespace Sys2Proof.Machine

def exec (i : Instr) (s : State) : Host.Outcome State Fault Refusal :=
  match i with
  | .pinReset => Sys2Proof.Machine.execPinReset s
  | .chainInAsserted => Sys2Proof.Machine.execChainInAsserted s
  | .startRecordRead record sum => Sys2Proof.Machine.execStartRecordRead record sum s
  | .startMemoryTimeout => Sys2Proof.Machine.execStartMemoryTimeout s
  | .busReset => Sys2Proof.Machine.execBusReset s
  | .busRelease => Sys2Proof.Machine.execBusRelease s
  | .listeningPeriodEnd => Sys2Proof.Machine.execListeningPeriodEnd s
  | .busIdleContend others => Sys2Proof.Machine.execBusIdleContend others s
  | .sendAbort => Sys2Proof.Machine.execSendAbort s
  | .badBlock cause => Sys2Proof.Machine.execBadBlock cause s
  | .claimSlotTimeout => Sys2Proof.Machine.execClaimSlotTimeout s
  | .offer blk => Sys2Proof.Machine.execOffer blk s
  | .claim o => Sys2Proof.Machine.execClaim o s
  | .release o => Sys2Proof.Machine.execRelease o s
  | .skip o => Sys2Proof.Machine.execSkip o s
  | .rebase o => Sys2Proof.Machine.execRebase o s
  | .holdOn blk => Sys2Proof.Machine.execHoldOn blk s
  | .holdOff blk => Sys2Proof.Machine.execHoldOff blk s
  | .mark o => Sys2Proof.Machine.execMark o s
  | .replyObserved o => Sys2Proof.Machine.execReplyObserved o s
  | .identity blk => Sys2Proof.Machine.execIdentity blk s
  | .station blk => Sys2Proof.Machine.execStation blk s
  | .pair blk => Sys2Proof.Machine.execPair blk s
  | .counters blk => Sys2Proof.Machine.execCounters blk s
  | .snapshot blk => Sys2Proof.Machine.execSnapshot blk s
  | .events blk => Sys2Proof.Machine.execEvents blk s
  | .ringFreeze blk => Sys2Proof.Machine.execRingFreeze blk s
  | .ringThaw blk => Sys2Proof.Machine.execRingThaw blk s
  | .unknownItem blk => Sys2Proof.Machine.execUnknownItem blk s
  | .beaconExpiry => Sys2Proof.Machine.execBeaconExpiry s
  | .holdOffExpiry p => Sys2Proof.Machine.execHoldOffExpiry p s
  | .monitorPeriodEnd p => Sys2Proof.Machine.execMonitorPeriodEnd p s
  | .detectTimeout p => Sys2Proof.Machine.execDetectTimeout p s
  | .trainingTimeout p => Sys2Proof.Machine.execTrainingTimeout p s
  | .verdictDeadline p => Sys2Proof.Machine.execVerdictDeadline p s
  | .burstWindowClose p => Sys2Proof.Machine.execBurstWindowClose p s
  | .closingProbeRepeat p => Sys2Proof.Machine.execClosingProbeRepeat p s
  | .echoTimeout p => Sys2Proof.Machine.execEchoTimeout p s
  | .qualificationTimeout p => Sys2Proof.Machine.execQualificationTimeout p s
  | .losHoldExpiry p => Sys2Proof.Machine.execLosHoldExpiry p s
  | .reRateCheck p margin => Sys2Proof.Machine.execReRateCheck p margin s
  | .reRateTimeout p => Sys2Proof.Machine.execReRateTimeout p s
  | .windDownLimit p => Sys2Proof.Machine.execWindDownLimit p s
  | .serviceClock60s p => Sys2Proof.Machine.execServiceClock60s p s
  | .skipTimerExpiry => Sys2Proof.Machine.execSkipTimerExpiry s
  | .holdLimitExpiry => Sys2Proof.Machine.execHoldLimitExpiry s
  | .frameBoundary p => Sys2Proof.Machine.execFrameBoundary p s
  | .fragComplete p => Sys2Proof.Machine.execFragComplete p s
  | .rateSwitchSent p => Sys2Proof.Machine.execRateSwitchSent p s
  | .rateAskSent p => Sys2Proof.Machine.execRateAskSent p s
  | .echoAskSent p => Sys2Proof.Machine.execEchoAskSent p s
  | .echoSent p => Sys2Proof.Machine.execEchoSent p s
  | .closingProbeSent p => Sys2Proof.Machine.execClosingProbeSent p s
  | .ownLeaveSent p => Sys2Proof.Machine.execOwnLeaveSent p s
  | .frameBadCrc p => Sys2Proof.Machine.execFrameBadCrc p s
  | .frag p f => Sys2Proof.Machine.execFrag p f s
  | .idle p f => Sys2Proof.Machine.execIdle p f s
  | .wake p f => Sys2Proof.Machine.execWake p f s
  | .params p f => Sys2Proof.Machine.execParams p f s
  | .probe p f => Sys2Proof.Machine.execProbe p f s
  | .closingProbe p f => Sys2Proof.Machine.execClosingProbe p f s
  | .verdict p f => Sys2Proof.Machine.execVerdict p f s
  | .closingVerdict p f => Sys2Proof.Machine.execClosingVerdict p f s
  | .echoAsk p f => Sys2Proof.Machine.execEchoAsk p f s
  | .echo p f => Sys2Proof.Machine.execEcho p f s
  | .test p f margin => Sys2Proof.Machine.execTest p f margin s
  | .qualified p f margin => Sys2Proof.Machine.execQualified p f margin s
  | .rateAsk p f => Sys2Proof.Machine.execRateAsk p f s
  | .rateSwitch p f => Sys2Proof.Machine.execRateSwitch p f s
  | .windDown p f => Sys2Proof.Machine.execWindDown p f s
  | .leave p f => Sys2Proof.Machine.execLeave p f s
  | .unknownFrameKind p kind f => Sys2Proof.Machine.execUnknownFrameKind p kind f s

end Sys2Proof.Machine
end

