-- ==== Sys2Proof/Machine/Tick.lean ====
section
/-! DEFINITION. One microsecond of the station's clock: the time base rises by one, and every running timer comes one
nearer to its end (spec/00_scope.md, "Time"). What happens at a timer's end is the command that opcode_table.json
names for it; a timer at 0 waits for that command. A frame that is still to be chosen at the boundary of this moment is
chosen before the microsecond passes. -/

namespace Sys2Proof.Machine

/-- A running timer one microsecond later. -/
def tickTimer : Timer → Timer
  | .stopped => .stopped
  | .running left => .running (left - 1)

/-- A running hold-off one microsecond later; a held one does not run (R84). -/
def tickHoldOff : HoldOff → HoldOff
  | .running left => .running (left - 1)
  | x => x

/-- A running skip timer one microsecond later; a FROZEN one does not run (R143). -/
def tickSkip : SkipTimer → SkipTimer
  | .running left => .running (left - 1)
  | x => x

/-- A running listening period one microsecond later; a held one does not run (R35). -/
def tickListening : Listening → Listening
  | .running left => .running (left - 1)
  | x => x

/-- The timers of TRAIN one microsecond later. -/
def tickTrain (t : TrainRecord) : TrainRecord :=
  { t with
    deadline := tickTimer t.deadline
    window := tickTimer t.window
    closingWait := tickTimer t.closingWait
    echoDeadline := tickTimer t.echoDeadline }

/-- The timers of service one microsecond later. -/
def tickService (r : ServiceRecord) : ServiceRecord :=
  { r with
    losHold := tickTimer r.losHold
    reRateCheck := tickTimer r.reRateCheck
    reRateTimer := tickTimer r.reRateTimer
    windDown := r.windDown.map (fun w => { w with timer := tickTimer w.timer }) }

/-- The timers of a line unit one microsecond later. -/
def tickLine (u : LineUnit) : LineUnit :=
  { u with
    holdOff := tickHoldOff u.holdOff
    monitor := tickTimer u.monitor
    detect := tickTimer u.detect
    training := tickTimer u.training
    qualification := tickTimer u.qualification
    serviceClock := tickTimer u.serviceClock
    train := tickTrain u.train
    svc := tickService u.svc }

/-- The clock and every timer one microsecond later. -/
def clockOn (s : State) : State :=
  { s with
    timeBase := s.timeBase + 1
    group :=
      { s.group with
        readTimer := tickTimer s.group.readTimer
        listening := tickListening s.group.listening
        beacon := tickTimer s.group.beacon }
    release :=
      { s.release with
        holdTimer := tickTimer s.release.holdTimer
        skipTimer := tickSkip s.release.skipTimer }
    lines := quadOf (fun p => tickLine (line s p)) }

/-- One microsecond passes: a transmitter in SERVICE is never silent (R68), so every choice still due is made first. -/
def tick (s : State) : State := clockOn (chooseDue s)

end Sys2Proof.Machine
end

