-- ==== Sys2Proof/Machine/Wire.lean ====
section
/-! DEFINITION. What stands on the line: the CRC (R179), a block of the bond bus as levels with its stuff bits
(R1, R2, R6), a frame of a pair as bytes (R182), and the command that a received block or frame is (R3, R180 to R182).
A level is a Bool: dominant is false, a 0, and recessive is true, a 1. -/

namespace Sys2Proof.Machine

/-! ### Bits and the CRC -/

/-- The bits of a field, most significant first. -/
def bitsOf {w : Nat} (x : BitVec w) : List Bool := (List.range w).map (fun i => x.getMsbD i)

/-- The bits of bytes in order. -/
def bitsOfBytes (bytes : List Byte) : List Bool := (bytes.map bitsOf).flatten

/-- The field of width `w` that bits spell, most significant first. -/
def fieldOf (w : Nat) (bits : List Bool) : BitVec w :=
  BitVec.ofNat w (bits.foldl (fun n b => 2 * n + b.toNat) 0)

/-- One covered bit shifted into the CRC register: x^16 + x^12 + x^5 + 1 (R179). -/
def crcBit (r : BitVec 16) (b : Bool) : BitVec 16 :=
  (r <<< 1) ^^^ (if r.getMsbD 0 ^^ b then 0x1021 else 0)

/-- The CRC of the covered bits, its register starting at FFFFh (R179). -/
def crcOf (bits : List Bool) : BitVec 16 := bits.foldl crcBit 0xFFFF

/-- A 16-bit CRC in two bytes, high byte first (R179). -/
def crcBytes (c : BitVec 16) : List Byte := byte2 c.toNat

/-! ### Stuffing (R2) -/

/-- The length of the run that a bit `b` continues or begins. -/
def runWith (last : Bool) (run : Nat) (b : Bool) : Nat := if b == last then run + 1 else 1

/-- R2: after five bits of equal level one bit of the opposite level is inserted; a stuff bit counts in the run that
follows it. `run` bits of level `last` have been sent. -/
def stuffFrom (last : Bool) (run : Nat) : List Bool → List Bool
  | [] => []
  | b :: bs =>
    if runWith last run b = 5 then b :: (!b) :: stuffFrom (!b) 1 bs else b :: stuffFrom b (runWith last run b) bs

/-- The stuffed part of a block; the start bit is not counted (R2). -/
def stuff (bits : List Bool) : List Bool := stuffFrom false 0 bits

/-- R2: the stuff bits removed; none at a stuffing violation. -/
def unstuffFrom (last : Bool) (run : Nat) : List Bool → Option (List Bool)
  | [] => some []
  | b :: bs =>
    if runWith last run b = 5 then
      match bs with
      | [] => none
      | x :: rest => if x = !b then (unstuffFrom x 1 rest).map (b :: ·) else none
    else (unstuffFrom b (runWith last run b) bs).map (b :: ·)

/-- The bits of a stuffed part, or none at a violation. -/
def unstuff (levels : List Bool) : Option (List Bool) := unstuffFrom false 0 levels

/-- The end delimiter: seven recessive bit times (R2). -/
def endDelimiter : List Bool := List.replicate 7 true

/-- The abort mark: eight dominant bit times (R2). -/
def abortMark : List Bool := List.replicate 8 false

/-! ### A block on the line (R1, R6) -/

/-- The covered bits of a block: its arbitration field and its body (R1). -/
def coveredBits (code : BitVec 3) (blk : BusBlock) : List Bool := bitsOf (arbField code blk) ++ bitsOfBytes blk.body

/-- R1: a block as it stands on the line: start bit, the stuffed arbitration field, body and CRC, end delimiter. -/
def sendBlock (code : BitVec 3) (blk : BusBlock) : List Bool :=
  false :: stuff (coveredBits code blk ++ bitsOf (crcOf (coveredBits code blk))) ++ endDelimiter

/-- Whole bytes from bits, eight to a byte; none when bits are left over. -/
def bytesOfBits : List Bool → Option (List Byte)
  | [] => some []
  | b7 :: b6 :: b5 :: b4 :: b3 :: b2 :: b1 :: b0 :: rest =>
    (bytesOfBits rest).map (fieldOf 8 [b7, b6, b5, b4, b3, b2, b1, b0] :: ·)
  | _ => none

/-- The kind code and the block that covered bits spell (R1). -/
def blockOfBits (bits : List Bool) : Option (BitVec 3 × BusBlock) :=
  (bytesOfBits (bits.drop 28)).map (fun body =>
    (fieldOf 3 (bits.take 3),
      ⟨fieldOf 20 ((bits.drop 3).take 20), fieldOf 3 ((bits.drop 23).take 3), fieldOf 2 ((bits.drop 26).take 2),
        body⟩))

/-- R6, R179: the unstuffed bits of a block: good when the last sixteen are the CRC of the rest. Bits too few for a field
and a CRC, and bits that leave part of a body byte, make a block that was followed to its end and is bad by its CRC
(DESIGN CHOICE, log 30). -/
def checkBlock (bits : List Bool) : Except BadCause (BitVec 3 × BusBlock) :=
  if bits.length < 44 then .error .crc
  else
    let covered := bits.take (bits.length - 16)
    if bits.drop (bits.length - 16) = bitsOf (crcOf covered) then
      match blockOfBits covered with
      | some b => .ok b
      | none => .error .crc
    else .error .crc

/-- R6: a receiver takes the levels from a start bit to the end of an end delimiter, which stands where seven recessive bits
end them (log 30). -/
def receiveBlock (levels : List Bool) : Except BadCause (BitVec 3 × BusBlock) :=
  match levels with
  | false :: rest =>
    if rest.drop (rest.length - 7) = endDelimiter then
      match unstuff (rest.take (rest.length - 7)) with
      | some bits => checkBlock bits
      | none => .error .stuffing
    else .error .stuffing
  | _ => .error .stuffing

/-! ### The command a received block is (R3, R181) -/

/-- R181: the command of a QUERY by its item code. -/
def queryCommand (blk : BusBlock) : Instr :=
  match (blk.body.getD 1 0).toNat with
  | 1 => .identity blk
  | 2 => .station blk
  | 3 => .pair blk
  | 4 => .counters blk
  | 5 => .snapshot blk
  | 6 => .events blk
  | 7 => .ringFreeze blk
  | 8 => .ringThaw blk
  | _ => .unknownItem blk

/-- R3: the command of a good block by its kind code. Kind code 7 is a QUERY from the bridge and a REPLY from any other
address. -/
def blockCommand (code : BitVec 3) (blk : BusBlock) : Instr :=
  match code.toNat with
  | 0 => .rebase (.heard blk)
  | 1 => .skip (.heard blk)
  | 2 => if blk.body.head? = some 1 then .holdOn blk else .holdOff blk
  | 3 => .mark (.heard blk)
  | 4 => .claim (.heard blk)
  | 5 => .release (.heard blk)
  | 6 => .offer blk
  | _ => if blk.sender = bridgeAddress then queryCommand blk else .replyObserved (.heard blk)

/-- R6, R7: the command of the levels a receiver took. -/
def commandOfLevels (levels : List Bool) : Instr :=
  match receiveBlock levels with
  | .ok (code, blk) => blockCommand code blk
  | .error cause => .badBlock cause

/-! ### A frame on a pair (R182) -/

/-- The kind of a frame of the transmitter. -/
def contentKind : TxContent → FrameKind
  | .frag _ => .frag
  | .idle => .idle
  | .wake _ => .wake
  | .params _ _ _ _ _ => .params
  | .probe _ _ _ => .probe
  | .closingProbe _ => .probe
  | .verdict _ _ _ => .verdict
  | .closingVerdict _ => .verdict
  | .echoAsk => .echoAsk
  | .echo _ => .echo
  | .test _ => .test
  | .qualified => .qualified
  | .rateAsk _ => .rateAsk
  | .rateSwitch _ => .rateSwitch
  | .windDown _ => .windDown
  | .leave => .leave

/-- The flags byte: start mark, end mark, closing, yours held (R182). -/
def flagsByte (start fin closing held : Bool) : Byte :=
  BitVec.ofNat 8
    ((if start then 128 else 0) + (if fin then 64 else 0) + (if closing then 32 else 0) + (if held then 16 else 0))

/-- The flags of a frame of the transmitter (R182). -/
def contentFlags : TxContent → Byte
  | .frag f => flagsByte f.startMark f.endMark false false
  | .params _ _ _ _ held => flagsByte false false false held
  | .closingProbe _ => flagsByte false false true false
  | .closingVerdict _ => flagsByte false false true false
  | _ => 0

/-- The sequence field of a frame of the transmitter (R182). -/
def contentSeq : TxContent → BitVec 16
  | .frag f => f.seq.setWidth 16
  | .probe _ _ index => BitVec.ofNat 16 index
  | .verdict burst _ _ => BitVec.ofNat 16 burst
  | .closingVerdict rate => BitVec.ofNat 16 rate
  | .test index => index.setWidth 16
  | _ => 0

/-- The body of a frame of the transmitter (R182). -/
def contentBody : TxContent → List Byte
  | .frag f => f.payload
  | .wake role => [roleByte role, 0]
  | .params role minRate maxRate ceiling _ => roleByte role :: byte2 minRate ++ byte2 maxRate ++ byte3 ceiling
  | .probe burst rate _ => byte1 burst ++ byte2 rate ++ probeFill
  | .closingProbe rate => byte1 0 ++ byte2 rate ++ probeFill
  | .verdict _ good clean => byte1 good ++ [if clean then 1 else 0]
  | .closingVerdict _ => [0, 1]
  | .echo turnaround => byte2 turnaround.toNat
  | .test index => testBody index
  | .rateAsk target => byte2 target
  | .rateSwitch rate => byte2 rate
  | .windDown reason => byte1 (windDownCode reason) ++ [0]
  | _ => [0, 0]

/-- The frame a receiver holds of what the transmitter started (R73, R182). -/
def frameOfTx (t : TxFrame) : Frame :=
  ⟨contentFlags t.content, BitVec.ofNat 8 ((contentBody t.content).length - 1), contentSeq t.content, t.count,
    contentBody t.content⟩

/-- The header and the body of a frame: the bytes its CRC covers (R182). -/
def frameCovered (kind : Byte) (f : Frame) : List Byte :=
  [kind, f.flags, f.lenLess1] ++ byte2 f.seq.toNat ++ byte3 f.count.toNat ++ f.body

/-- R182: a frame as it stands on the pair, its CRC last. -/
def sendFrame (kind : Byte) (f : Frame) : List Byte :=
  frameCovered kind f ++ crcBytes (crcOf (bitsOfBytes (frameCovered kind f)))

/-- R71, R182: the bytes of the frame the transmitter has on the pair. -/
def txBytes (t : TxFrame) : List Byte := sendFrame (frameCode (contentKind t.content)) (frameOfTx t)

/-- R74, R182: the kind code and the frame that bytes with a good CRC spell; none when the CRC is bad. Fewer than ten bytes,
too few for a header and a CRC, count as a bad CRC whatever they are (DESIGN CHOICE, log 38). -/
def receiveFrame (bytes : List Byte) : Option (Byte × Frame) :=
  let covered := bytes.take (bytes.length - 2)
  if 10 ≤ bytes.length ∧ bytes.drop (bytes.length - 2) = crcBytes (crcOf (bitsOfBytes covered)) then
    some
      (covered.getD 0 0,
        ⟨covered.getD 1 0, covered.getD 2 0, covered.getD 3 0 ++ covered.getD 4 0,
          covered.getD 5 0 ++ (covered.getD 6 0 ++ covered.getD 7 0), covered.drop 8⟩)
  else none

/-- R182: the command of a good frame on pair `p` by its kind code, with the margin the front end supplies. -/
def frameCommand (p : Pair) (margin : BitVec 6) (kind : Byte) (f : Frame) : Instr :=
  match frameKindOf kind with
  | some .frag => .frag p f
  | some .idle => .idle p f
  | some .wake => .wake p f
  | some .params => .params p f
  | some .probe => if frameClosing f then .closingProbe p f else .probe p f
  | some .verdict => if frameClosing f then .closingVerdict p f else .verdict p f
  | some .echoAsk => .echoAsk p f
  | some .echo => .echo p f
  | some .test => .test p f margin
  | some .qualified => .qualified p f margin
  | some .rateAsk => .rateAsk p f
  | some .rateSwitch => .rateSwitch p f
  | some .windDown => .windDown p f
  | some .leave => .leave p f
  | none => .unknownFrameKind p kind f

/-- R74: the command of the bytes a front end hands over. -/
def commandOfBytes (p : Pair) (margin : BitVec 6) (bytes : List Byte) : Instr :=
  match receiveFrame bytes with
  | some (kind, f) => frameCommand p margin kind f
  | none => .frameBadCrc p

/-- R71: the exact duration of a frame of `n` bytes at rate code `rate`, in µs. -/
def frameDuration (n rate : Nat) : Rat := (n * 250 : Nat) / (rate : Nat)

/-- R71: the exact duration of the frame on the pair, at the rate it started with. -/
def txDuration (t : TxFrame) : Rat := frameDuration (txBytes t).length t.rate

end Sys2Proof.Machine
end

