-- ==== Sys2Proof/Safety.lean ====
section
/-! DEFINITION. What holds of a PF412 at every moment, as laws of a state: the sentences of the manual that say
"always", "never" and "at every moment". Each law stands with what it takes to be kept by every step. -/

namespace Sys2Proof.Machine

/-- Every pair meets `c`. -/
abbrev EveryPair (c : Pair → Prop) : Prop := c .a ∧ c .b ∧ c .c ∧ c .d

/-- Every station number meets `c`. -/
abbrev EveryStation (c : StationNo → Prop) : Prop := c .n0 ∧ c .n1 ∧ c .n2 ∧ c .n3 ∧ c .n4 ∧ c .n5

/-! ### The hold queue (R127, R138) -/

/-- R127: the entries are in order of distance from `e`, no two alike, each at `e` or in window. -/
abbrev OrderedFrom (e : Seq) (entries : List HoldEntry) : Prop :=
  (∀ h ∈ entries, seqDist e h.seq < Config.window) ∧
    entries.Pairwise (fun x y => seqDist e x.seq < seqDist e y.seq)

/-- R127, R141: the entries stand in order from E; a station with no E holds none. -/
def OrderedFromE : Option Seq → List HoldEntry → Prop
  | none, entries => entries = []
  | some e, entries => OrderedFrom e entries

/-- R127, R138: at most 96 entries, in order from E, and a run-away counter of 0 to 15. -/
abbrev HoldQueueLaw (s : State) : Prop :=
  s.holdQueue.entries.length ≤ Config.holdEntries ∧ s.holdQueue.runaway ≤ 15 ∧
    OrderedFromE s.release.e s.holdQueue.entries

/-! ### Modes (R17, R24, R81, R84) -/

/-- R17, R24: an ACTIVE station holds a number, NS and E and has asserted CHAIN_OUT. -/
abbrev ActiveLaw (s : State) : Prop :=
  s.group.mode = .active →
    s.group.number.isSome ∧ s.sequencer.ns.isSome ∧ s.release.e.isSome ∧ s.group.chainOut = true

/-- Whether a hold-off runs (R84). -/
def holdOffCounts (u : LineUnit) : Bool :=
  match u.holdOff with
  | .running _ => true
  | _ => false

/-- R83, R84, R104: a line unit that has not begun: OFF, or QUIET with no running hold-off, with nothing queued. -/
abbrev AtRest (u : LineUnit) : Prop :=
  (u.state = .off ∨ u.state = .quiet) ∧ holdOffCounts u = false ∧ u.queue = []

/-- R79, R104: outside ACTIVE and CONFLICT no line unit has begun. -/
abbrev RestLaw (s : State) : Prop :=
  s.group.mode ≠ .active → s.group.mode ≠ .conflict → EveryPair (fun p => AtRest (line s p))

/-- The kinds a station sends. -/
def allSlotKinds : List SlotKind := [.rebase, .skip, .mark, .claim, .release, .reply]

/-- R8, R16: only an ACTIVE station has a block pending, or one on the line that would be retried. -/
abbrev SilentLaw (s : State) : Prop :=
  s.group.mode ≠ .active →
    (∀ k ∈ allSlotKinds, slotOf s.port k = none) ∧ (∀ x ∈ s.port.onLine, x.retry = false)

/-- Outside ACTIVE the skip timer is STOPPED (R144, R165). -/
abbrev SkipTimerLaw (s : State) : Prop := s.group.mode ≠ .active → s.release.skipTimer = .stopped

/-! ### The claim slot and the send pool (R14, R36, R65, R66) -/

/-- R14, R36: the claim phase is IDLE exactly while no claim slot is open, and then the latch, the verdict, the record
and the CLAIM slot are empty and no own CLAIM is on the line. -/
abbrev ClaimSlotLaw (s : State) : Prop :=
  (s.port.slotOpen = true ↔ s.sequencer.phase ≠ .idle) ∧
    (s.port.slotOpen = true → s.port.latch.isSome ∧ s.sequencer.verdict.isSome) ∧
    (s.port.slotOpen = false →
      s.port.latch = none ∧ s.sequencer.verdict = none ∧ s.sequencer.bidding = none ∧ s.port.claim = none ∧
        ownOnLine s.port .claim = false)

/-- The pairs that a CLAIM of this station, pending or on the line, names. -/
def claimedPairs (s : State) : List Pair :=
  (s.port.claim.map (fun x => pairOfBits x.block.pair)).toList ++
    (match s.port.onLine with
    | some x => if x.kind = .claim then [pairOfBits x.block.pair] else []
    | none => [])

/-- R65, R66: the slots in use never exceed 64, nor a queue its limit; while a CLAIM stands, there is room for what it
would win. -/
abbrev PoolLaw (s : State) : Prop :=
  poolUsed s ≤ Config.poolSlots ∧ (claimedPairs s ≠ [] → poolUsed s < Config.poolSlots) ∧
    EveryPair (fun p =>
      (line s p).queue.length ≤ quadGet (config s).sendLimit p ∧
        (p ∈ claimedPairs s → (line s p).queue.length < quadGet (config s).sendLimit p))

/-- R65, R66 with the laws it takes to keep them. -/
abbrev SendPoolLaw (s : State) : Prop := PoolLaw s ∧ ClaimSlotLaw s ∧ SilentLaw s ∧ SkipTimerLaw s ∧ RestLaw s

/-! ### What a pending SKIP or RELEASE names (R145, R151) -/

/-- A block that names the station's E in its value field. -/
abbrev NamesE (s : State) (blk : BusBlock) : Prop := s.release.e = some (valueSeq blk.value)

/-- A pending SKIP or RELEASE, or one on the line that would be retried, names the current E. -/
abbrev NamedLaw (s : State) : Prop :=
  (∀ x ∈ s.port.skip, NamesE s x.block) ∧ (∀ x ∈ s.port.release, NamesE s x.block) ∧
    (∀ x ∈ s.port.onLine, x.kind = .skip ∨ x.kind = .release → x.retry = true → NamesE s x.block)

/-- R151 with the laws it takes to keep it. -/
abbrev ReleaseLaw (s : State) : Prop := NamedLaw s ∧ SkipTimerLaw s ∧ SilentLaw s

/-! ### Rates (R56, R93, R96, R102, R115) -/

/-- R20, R21: the rates of a clamped record. -/
abbrev RatesConfigured (c : StartRecord) : Prop := 1 ≤ c.minRate ∧ c.minRate ≤ c.maxRate ∧ c.maxRate ≤ 256

/-- The rate that the RATE-SWITCH on the pair carries. -/
def switchOnPair (u : LineUnit) : Option Nat :=
  match u.tx with
  | some ⟨.rateSwitch r, _, _⟩ => some r
  | _ => none

/-- Whether an ECHO-ASK is on the pair. -/
def echoAskOnPair (u : LineUnit) : Bool :=
  match u.tx with
  | some ⟨.echoAsk, _, _⟩ => true
  | _ => false

/-- A RATE-SWITCH that is pending or on the pair carries a rate in `lo` to `hi`. -/
abbrev SwitchWithin (lo hi : Nat) (u : LineUnit) : Prop :=
  (∀ r ∈ u.ctl.rateSwitch, lo ≤ r ∧ r ≤ hi) ∧ ∀ r ∈ switchOnPair u, lo ≤ r ∧ r ≤ hi

/-- R102, R114, R115: the rates of a pair in SERVICE or WIND-DOWN. -/
abbrev ServiceRates (c : StartRecord) (u : LineUnit) : Prop :=
  c.minRate ≤ u.sendRate ∧ u.sendRate ≤ u.trainedSend ∧ u.trainedSend ≤ c.maxRate ∧
    (∀ t ∈ u.svc.pendingTarget, c.minRate ≤ t ∧ t ≤ u.trainedSend) ∧
    SwitchWithin c.minRate u.trainedSend u ∧ 1 ≤ u.recvRate ∧ u.recvRate ≤ u.trainedRecv ∧ u.trainedRecv ≤ 256

/-- R93: the search record lies in its range. -/
abbrev SearchWithin (t : TrainRecord) : Prop :=
  ∀ sr ∈ t.search,
    t.lo ≤ sr.candidate ∧ sr.candidate ≤ t.hi ∧ (∀ g ∈ sr.good, t.lo ≤ g ∧ g ≤ t.hi) ∧
      (∀ x ∈ sr.fail, t.lo ≤ x ∧ x ≤ t.hi)

/-- Whether a line unit in TRAIN has an ECHO-ASK of its own pending, on the pair, waiting for its ECHO or answered. -/
def echoBegun (u : LineUnit) : Bool :=
  u.train.echoAskPending || u.train.measured || isRunning u.train.echoDeadline || echoAskOnPair u

/-- R92, R93, R96: the rates of a line unit in TRAIN: the search range, the trained send rate once it is set, and what
the phases take for granted. -/
abbrev TrainRates (c : StartRecord) (u : LineUnit) : Prop :=
  (u.farParams.isSome → c.minRate ≤ u.train.lo ∧ u.train.lo ≤ u.train.hi ∧ u.train.hi ≤ c.maxRate) ∧
    (u.train.phase ≠ .params ∨ u.train.search.isSome → u.farParams.isSome) ∧ SearchWithin u.train ∧
    (u.trainedSend = 0 ∨ (c.minRate ≤ u.trainedSend ∧ u.trainedSend ≤ c.maxRate)) ∧
    (u.trainedRecv ≤ 256) ∧
    (u.train.phase = .closing → u.trainedSend ≠ 0) ∧
    (u.train.phase = .echo → u.trainedSend ≠ 0 ∧ u.trainedRecv ≠ 0) ∧
    (echoBegun u = true → u.trainedSend ≠ 0 ∧ u.trainedRecv ≠ 0) ∧
    (c.role = .cabinet → u.train.phase = .receiving → u.trainedSend ≠ 0) ∧
    (c.role = .farm → u.train.phase = .sending ∨ u.train.phase = .closing → u.trainedRecv ≠ 0)

/-- R99, R102: the rates a line unit in QUALIFY will carry into SERVICE. -/
abbrev QualifyRates (c : StartRecord) (u : LineUnit) : Prop :=
  c.minRate ≤ u.trainedSend ∧ u.trainedSend ≤ c.maxRate ∧ 1 ≤ u.trainedRecv ∧ u.trainedRecv ≤ 256

/-- The rates of a line unit by its state. Outside SERVICE and WIND-DOWN no RATE-SWITCH is pending or on the pair, and
before TRAIN no ECHO-ASK is on it. -/
abbrev LineRates (c : StartRecord) (u : LineUnit) : Prop :=
  (inService u = true → ServiceRates c u) ∧
    (inService u = false → u.ctl.rateSwitch = none ∧ switchOnPair u = none) ∧
    (u.state = .off ∨ u.state = .quiet ∨ u.state = .detect → echoAskOnPair u = false) ∧
    (u.state = .train → TrainRates c u) ∧ (u.state = .qualify → QualifyRates c u)

/-- R102 with the laws it takes to keep it. -/
abbrev RateLaw (s : State) : Prop :=
  RatesConfigured (config s) ∧ EveryPair (fun p => LineRates (config s) (line s p)) ∧ RestLaw s

/-! ### Ranges (R8, R29, R57, R82, R84, R106, R176) -/

/-- R8: failed-attempt counts lie in 0 to 3. -/
abbrev AttemptsLaw (s : State) : Prop :=
  (∀ k ∈ allSlotKinds, ∀ x ∈ slotOf s.port k, x.fails ≤ 3) ∧ ∀ x ∈ s.port.onLine, x.fails ≤ 3

/-- R27, R29: the heard and missed counts of every entry lie in 0 to 15, and its capacity in 0 to 1024. -/
abbrev PresenceLaw (s : State) : Prop :=
  EveryStation (fun k =>
    (stationGet s.group.table k).heard ≤ 15 ∧ (stationGet s.group.table k).missed ≤ 15 ∧
      (stationGet s.group.table k).capacity ≤ 1024)

/-- R82, R101, R106: the counts of a line unit stay below the values at which they act: the lit run in DETECT (R88), the
LOS runs (R108), the errored window (R110), the streaks (R111) and the qualification counts (R101). -/
abbrev LineCounts (u : LineUnit) : Prop :=
  (u.state = .detect → u.litCount ≤ 2 ∧ u.unlitCount ≤ 3) ∧ u.svc.darkRun ≤ 2 ∧ u.svc.nonDarkRun ≤ 2 ∧
    u.svc.windowPeriods < Config.windowPeriods ∧ u.svc.windowErrored ≤ u.svc.windowPeriods ∧
    u.svc.downStreak ≤ 2 ∧ u.svc.upStreak ≤ 2 ∧ u.qualify.bad < Config.failTests ∧
    u.qualify.good ≤ Config.passTests ∧ (u.qualify.ownPass = false → u.qualify.good < Config.passTests)

/-- R57, R82, R84: k lies in 0 to 7, D in 0 to 16,383, and the counts in their ranges. -/
abbrev LineRangesLaw (s : State) : Prop :=
  EveryPair (fun p => (line s p).k ≤ 7 ∧ (line s p).delay ≤ Config.maxDelay ∧ LineCounts (line s p))

/-- R176: the ring holds at most 16 entries. -/
abbrev RingLaw (s : State) : Prop := s.status.ring.length ≤ Config.ringEntries

/-- The ranges of the counts that the manual bounds. -/
abbrev RangesLaw (s : State) : Prop := AttemptsLaw s ∧ PresenceLaw s ∧ LineRangesLaw s ∧ RingLaw s

/-! ### Queues and service (R66, R76, R83) -/

/-- R76: a send queue is non-empty only while its pair is in SERVICE or WIND-DOWN. -/
abbrev QueueLaw (s : State) : Prop :=
  EveryPair (fun p => (line s p).queue ≠ [] → inService (line s p) = true)

/-- R76 with the law it takes to keep it. -/
abbrev ServiceQueueLaw (s : State) : Prop := QueueLaw s ∧ RestLaw s

/-! ### Which commands may change what -/

/-- The commands at which E may change: an observed RELEASE, SKIP or REBASE, the entry to ACTIVE, and the resets
(R144, R145). -/
def mayMoveE : Instr → Bool
  | .release _ => true
  | .skip _ => true
  | .rebase _ => true
  | .listeningPeriodEnd => true
  | .pinReset => true
  | .busReset => true
  | _ => false

/-- The commands at which NS may change: an observed CLAIM, the entry to ACTIVE, and the resets (R43, R52, R53). -/
def mayMoveNs : Instr → Bool
  | .claim _ => true
  | .listeningPeriodEnd => true
  | .pinReset => true
  | .busReset => true
  | _ => false

/-- The commands at which the start record may change (R19, R34). -/
def mayChangeRecord : Instr → Bool
  | .startRecordRead _ _ => true
  | .startMemoryTimeout => true
  | .pinReset => true
  | _ => false

/-- The commands at which the snapshot values may change (R166, R170, R178). -/
def mayChangeSnapshot : Instr → Bool
  | .snapshot _ => true
  | .pinReset => true
  | .busReset => true
  | _ => false

/-- The commands that set the time base to 0. -/
def resets : Instr → Bool
  | .pinReset => true
  | .busReset => true
  | _ => false

/-- The pair a command of a line unit names. -/
def pairOf : Instr → Option Pair
  | .holdOffExpiry p => some p
  | .monitorPeriodEnd p => some p
  | .detectTimeout p => some p
  | .trainingTimeout p => some p
  | .verdictDeadline p => some p
  | .burstWindowClose p => some p
  | .closingProbeRepeat p => some p
  | .echoTimeout p => some p
  | .qualificationTimeout p => some p
  | .losHoldExpiry p => some p
  | .reRateCheck p _ => some p
  | .reRateTimeout p => some p
  | .windDownLimit p => some p
  | .serviceClock60s p => some p
  | .frameBoundary p => some p
  | .fragComplete p => some p
  | .rateSwitchSent p => some p
  | .rateAskSent p => some p
  | .echoAskSent p => some p
  | .echoSent p => some p
  | .closingProbeSent p => some p
  | .ownLeaveSent p => some p
  | .frameBadCrc p => some p
  | .frag p _ => some p
  | .idle p _ => some p
  | .wake p _ => some p
  | .params p _ => some p
  | .probe p _ => some p
  | .closingProbe p _ => some p
  | .verdict p _ => some p
  | .closingVerdict p _ => some p
  | .echoAsk p _ => some p
  | .echo p _ => some p
  | .test p _ _ => some p
  | .qualified p _ _ => some p
  | .rateAsk p _ => some p
  | .rateSwitch p _ => some p
  | .windDown p _ => some p
  | .leave p _ => some p
  | .unknownFrameKind p _ _ => some p
  | _ => none

/-! ### The rate search as a whole (R93) -/

/-- R93: the rate a search ends with, within `n` bursts, when the bursts that are clean are those `clean` names. -/
def searchResult (clean : Nat → Bool) (lo hi : Nat) : Nat → Search → Option Nat
  | 0, _ => none
  | n + 1, sr =>
    match searchStep lo hi (clean sr.candidate) sr with
    | .next sr' => searchResult clean lo hi n sr'
    | .done rate => some rate
    | .floor => none

end Sys2Proof.Machine
end

