-- ==== Sys2Proof/WellFormed.lean ====
section
/-! DEFINITION. The commands that can come about: the block or frame a command carries is of the kind the command's
name says (R3, R180 to R182), and at most seven other attachments start at one moment (spec/01_the_bond_bus.md). -/

namespace Sys2Proof

open Machine

/-- The other attachments of a bond bus with one station's own place taken: seven of eight. -/
def otherAttachments : Nat := 7

/-- A QUERY comes from the bridge, and its body carries the item code (R3, R181). -/
def isQueryFor (code : Byte) (blk : BusBlock) : Bool := blk.sender == bridgeAddress && blk.body.getD 1 0 == code

/-- Kind code 7 from the bridge is a QUERY, so a REPLY is heard from another address (R3). -/
def isReply : Observed → Bool
  | .own => true
  | .heard blk => blk.sender != bridgeAddress

/-- Whether a command is one that can come about. -/
def Instr.wellFormed : Instr → Bool
  | .busIdleContend others => decide (others.length ≤ otherAttachments)
  | .holdOn blk => blk.body.head? == some 1
  | .holdOff blk => blk.body.head? != some 1
  | .replyObserved o => isReply o
  | .identity blk => isQueryFor 0x01 blk
  | .station blk => isQueryFor 0x02 blk
  | .pair blk => isQueryFor 0x03 blk
  | .counters blk => isQueryFor 0x04 blk
  | .snapshot blk => isQueryFor 0x05 blk
  | .events blk => isQueryFor 0x06 blk
  | .ringFreeze blk => isQueryFor 0x07 blk
  | .ringThaw blk => isQueryFor 0x08 blk
  | .unknownItem blk =>
    blk.sender == bridgeAddress && (blk.body.getD 1 0 == 0 || decide (8 < (blk.body.getD 1 0).toNat))
  | .probe _ f => !frameClosing f
  | .closingProbe _ f => frameClosing f
  | .verdict _ f => !frameClosing f
  | .closingVerdict _ f => frameClosing f
  | .unknownFrameKind _ kind _ => (frameKindOf kind).isNone
  | .pinReset => true
  | .chainInAsserted => true
  | .startRecordRead _ _ => true
  | .startMemoryTimeout => true
  | .busReset => true
  | .busRelease => true
  | .listeningPeriodEnd => true
  | .sendAbort => true
  | .badBlock _ => true
  | .claimSlotTimeout => true
  | .offer _ => true
  | .claim _ => true
  | .release _ => true
  | .skip _ => true
  | .rebase _ => true
  | .mark _ => true
  | .beaconExpiry => true
  | .holdOffExpiry _ => true
  | .monitorPeriodEnd _ => true
  | .detectTimeout _ => true
  | .trainingTimeout _ => true
  | .verdictDeadline _ => true
  | .burstWindowClose _ => true
  | .closingProbeRepeat _ => true
  | .echoTimeout _ => true
  | .qualificationTimeout _ => true
  | .losHoldExpiry _ => true
  | .reRateCheck _ _ => true
  | .reRateTimeout _ => true
  | .windDownLimit _ => true
  | .serviceClock60s _ => true
  | .skipTimerExpiry => true
  | .holdLimitExpiry => true
  | .frameBoundary _ => true
  | .fragComplete _ => true
  | .rateSwitchSent _ => true
  | .rateAskSent _ => true
  | .echoAskSent _ => true
  | .echoSent _ => true
  | .closingProbeSent _ => true
  | .ownLeaveSent _ => true
  | .frameBadCrc _ => true
  | .frag _ _ => true
  | .idle _ _ => true
  | .wake _ _ => true
  | .params _ _ => true
  | .echoAsk _ _ => true
  | .echo _ _ => true
  | .test _ _ _ => true
  | .qualified _ _ _ => true
  | .rateAsk _ _ => true
  | .rateSwitch _ _ => true
  | .windDown _ _ => true
  | .leave _ _ => true

end Sys2Proof
end

