-- ==== Sys2Proof/Certificates/Slice0/Obligations.lean ====
section
/-! DEFINITION. The statements for the provers, one `def Obligations.<Name> : Prop` each. OBLIGATIONS.json lists them. -/

open Sys2Proof Sys2Proof.Machine

/-! ### The machine -/

/-- One step takes the command at the front of the queue and runs its meaning on the state with the queue's rest. -/
def Obligations.StepRunsTheCommandAtTheFront : Prop :=
  ∀ (c : Instr) (rest : List Instr) (s : State),
    s.pending = c :: rest → step s = exec c { s with pending := rest }

/-- The model's choice (logs 1 and 8): on an empty queue one microsecond passes. A pair whose frame has ended, and which has
chosen no next one, first chooses it, an IDLE being counted. Then the time base rises by one, every running timer of the
station and of its line units comes one nearer to its end and stops at 0, held and frozen ones stand still, and nothing else
changes. -/
def Obligations.IdleStepPassesOneMicrosecond : Prop :=
  ∀ s : State, s.pending = [] →
    let later (x : Timer) : Timer := match x with | .stopped => .stopped | .running n => .running (n - 1)
    let chosen (p : Pair) : LineUnit := if (line s p).tx = none then chooseLine s (line s p) else line s p
    let idles (p : Pair) : Bool := (line s p).tx.isNone && txIsIdle (chosen p)
    step s =
      .next
        { s with
          timeBase := s.timeBase + 1
          group :=
            { s.group with
              readTimer := later s.group.readTimer
              beacon := later s.group.beacon
              listening := match s.group.listening with | .running n => .running (n - 1) | x => x }
          release :=
            { s.release with
              holdTimer := later s.release.holdTimer
              skipTimer := match s.release.skipTimer with | .running n => .running (n - 1) | x => x }
          lines :=
            quadOf (fun p =>
              let u := chosen p
              { u with
                holdOff := match u.holdOff with | .running n => .running (n - 1) | x => x
                monitor := later u.monitor
                detect := later u.detect
                training := later u.training
                qualification := later u.qualification
                serviceClock := later u.serviceClock
                train :=
                  { u.train with
                    deadline := later u.train.deadline
                    window := later u.train.window
                    closingWait := later u.train.closingWait
                    echoDeadline := later u.train.echoDeadline }
                svc :=
                  { u.svc with
                    losHold := later u.svc.losHold
                    reRateCheck := later u.svc.reRateCheck
                    reRateTimer := later u.svc.reRateTimer
                    windDown := u.svc.windDown.map (fun w => { w with timer := later w.timer }) } })
          status :=
            { s.status with
              live :=
                { s.status.live with
                  pairs :=
                    quadOf (fun p =>
                      let c := quadGet s.status.live.pairs p
                      if idles p then { c with idleFrames := c.idleFrames + 1 } else c) } } }

/-- The values the manual gives for a pin reset: the group monitor (R34), the bus port (R16), the send sequencer (R52),
the line units (R79, R104), the hold queue (R141), the release controller (R164) and the status unit (R178). The fields
for which the manual gives no reset value are not listed; the state after the reset has the model's choice of them (log
29). -/
def Obligations.PinResetLeavesStatedValues : Prop :=
  ∀ s : State,
    exec .pinReset s = .next { State.reset with pending := s.pending } ∧
      State.reset.group.mode = .waiting ∧ State.reset.group.number = none ∧ State.reset.group.record = none ∧
      State.reset.group.defaultsInUse = false ∧ State.reset.group.chainOut = false ∧
      State.reset.group.join = .empty ∧ State.reset.group.beacon = .stopped ∧
      (∀ k, stationGet State.reset.group.table k = ⟨false, 0, 0, false, .unknown, 0⟩) ∧
      (∀ k, slotOf State.reset.port k = none) ∧ State.reset.port.receiveBuffer = none ∧
      State.reset.port.latch = none ∧ State.reset.port.slotOpen = false ∧
      State.reset.sequencer = ⟨none, .idle, none, none⟩ ∧
      (∀ p, (line State.reset p).state = .quiet ∧ (line State.reset p).holdOff = .held ∧
        (line State.reset p).k = 0 ∧ (line State.reset p).queue = [] ∧ (line State.reset p).ctl = .empty ∧
        (line State.reset p).tx = none ∧ (line State.reset p).txCount = 0 ∧
        (line State.reset p).rxExpected = none ∧ (line State.reset p).lastReceived = none ∧
        (line State.reset p).trainedSend = 0 ∧ (line State.reset p).trainedRecv = 0 ∧
        (line State.reset p).delay = 0 ∧ (line State.reset p).farCeiling = 0 ∧
        (line State.reset p).lit = false ∧ (line State.reset p).litCount = 0 ∧ (line State.reset p).unlitCount = 0 ∧
        (line State.reset p).monitor = .stopped ∧ (line State.reset p).detect = .stopped ∧
        (line State.reset p).training = .stopped ∧ (line State.reset p).qualification = .stopped ∧
        (line State.reset p).serviceClock = .stopped ∧ (line State.reset p).train.deadline = .stopped ∧
        (line State.reset p).train.window = .stopped ∧ (line State.reset p).train.closingWait = .stopped ∧
        (line State.reset p).train.echoDeadline = .stopped ∧ (line State.reset p).svc.losHold = .stopped ∧
        (line State.reset p).svc.reRateCheck = .stopped ∧ (line State.reset p).svc.reRateTimer = .stopped ∧
        (line State.reset p).svc.windDown = none ∧ (line State.reset p).train.search = none ∧
        (line State.reset p).train.judge = none ∧ (line State.reset p).qualify = ⟨0, 0, false, false, 0⟩) ∧
      poolUsed State.reset = 0 ∧ State.reset.holdQueue = ⟨[], 0⟩ ∧
      State.reset.release = ⟨none, false, false, .stopped, .stopped⟩ ∧
      State.reset.status.live = .zero ∧ State.reset.status.snap = .zero ∧ State.reset.status.snapTag = none ∧
      State.reset.status.snapStamp = none ∧ State.reset.status.ring = [] ∧ State.reset.status.frozen = false ∧
      State.reset.status.missed = 0 ∧ State.reset.timeBase = 0

/-- The state after reset meets every law that a step keeps. -/
def Obligations.ResetMeetsEveryLaw : Prop :=
  HoldQueueLaw .reset ∧ SendPoolLaw .reset ∧ ReleaseLaw .reset ∧ RateLaw .reset ∧ RangesLaw .reset ∧
    ServiceQueueLaw .reset ∧ ActiveLaw .reset

/-- Every command of the table answers a next state from every state: the manual stops none. The model's choice (log 1): a
command takes no time and leaves the commands that wait as they were; only the resets touch the time base. -/
def Obligations.EveryCommandAnswersANextStateAtOnce : Prop :=
  ∀ (c : Instr) (s : State),
    ∃ t, exec c s = .next t ∧ t.pending = s.pending ∧ (resets c = false → t.timeBase = s.timeBase)

/-! ### Laws that every step keeps -/

/-- R127, R138: the hold queue holds at most 96 entries, in order of distance from E, no two alike, each at E or in
window, and the run-away counter stays in 0 to 15. -/
def Obligations.EveryStepKeepsTheHoldQueueLaw : Prop :=
  ∀ s t : State, HoldQueueLaw s → step s = .next t → HoldQueueLaw t

/-- R14, R36, R65, R66: the slots in use stay within 64 and each queue within its limit; the CLAIM slot is empty and
the claim phase IDLE whenever no claim slot is open. -/
def Obligations.EveryStepKeepsTheSendPoolLaw : Prop :=
  ∀ s t : State, SendPoolLaw s → step s = .next t → SendPoolLaw t

/-- R145, R16: a pending SKIP or RELEASE names the current E at every moment it is pending, and only an ACTIVE station
has a block pending. -/
def Obligations.EveryStepKeepsSkipAndReleaseAtE : Prop :=
  ∀ s t : State, ReleaseLaw s → step s = .next t → ReleaseLaw t

/-- R102, R115: in SERVICE and WIND-DOWN the send rate in effect and a pending target lie between the min service rate
and the trained send rate, which lies between 1 and the max rate code, and the receive rate within its trained rate. -/
def Obligations.EveryStepKeepsTheRateLaw : Prop :=
  ∀ s t : State, RateLaw s → step s = .next t → RateLaw t

/-- R8, R29, R57, R84, R176: failed-attempt counts stay in 0 to 3, heard and missed counts in 0 to 15, capacities in 0
to 1024, k in 0 to 7, D in 0 to 16,383, and the ring within 16 entries. -/
def Obligations.EveryStepKeepsTheCountsInRange : Prop :=
  ∀ s t : State, RangesLaw s → step s = .next t → RangesLaw t

/-- R24, R76, R83, R104: an ACTIVE station holds a number, NS and E, with CHAIN_OUT asserted; a send queue is non-empty only
while its pair is in SERVICE or WIND-DOWN, and outside ACTIVE and CONFLICT no line unit has begun. -/
def Obligations.EveryStepKeepsModesAndQueues : Prop :=
  ∀ s t : State, ActiveLaw s ∧ ServiceQueueLaw s → step s = .next t → ActiveLaw t ∧ ServiceQueueLaw t

/-! ### What only some commands may change -/

/-- R19, R43, R52, R144, R145, R166, R170: E changes only on an observed RELEASE, SKIP or REBASE, NS only on an observed
CLAIM, and both at the entry to ACTIVE and at a reset; the start record only where one is stored and at a pin reset; the
snapshot values, their tag and their stamp only at a SNAPSHOT and at a reset. -/
def Obligations.OnlyTheNamedCommandsMoveENsRecordAndSnapshot : Prop :=
  ∀ (c : Instr) (s t : State), exec c s = .next t →
    (mayMoveE c = false → t.release.e = s.release.e) ∧
      (mayMoveNs c = false → t.sequencer.ns = s.sequencer.ns) ∧
      (mayChangeRecord c = false →
        t.group.record = s.group.record ∧ t.group.defaultsInUse = s.group.defaultsInUse) ∧
      (mayChangeSnapshot c = false →
        t.status.snap = s.status.snap ∧ t.status.snapTag = s.status.snapTag ∧
          t.status.snapStamp = s.status.snapStamp)

/-- Each pair's line unit stands alone: a command of one pair's line unit leaves every other pair's line unit, queue
and state as they were. -/
def Obligations.CommandsOfAPairLeaveOtherPairsAlone : Prop :=
  ∀ (c : Instr) (s t : State) (p r : Pair), pairOf c = some p → r ≠ p → exec c s = .next t → line t r = line s r

/-! ### The line and the pairs on the wire -/

/-- R1, R2, R6, R10, R179: every block of every kind, stuffed and closed by its CRC and end delimiter, is received good
and exactly as it was sent; and whatever part of a block has gone out, an abort mark after it is a stuffing violation. The
model's reading: a stuff bit counts in the run that follows it (log 28). -/
def Obligations.BlockIsReceivedAsItWasSent : Prop :=
  (∀ (code : BitVec 3) (blk : BusBlock), receiveBlock (sendBlock code blk) = .ok (code, blk)) ∧
    ∀ levels rest : List Bool, unstuff (levels ++ abortMark ++ rest) = none

/-- R179, R182: every frame, its header and body closed by its CRC, is received good and exactly as it was sent. -/
def Obligations.FrameIsReceivedAsItWasSent : Prop :=
  ∀ (kind : Byte) (f : Frame), receiveFrame (sendFrame kind f) = some (kind, f)

/-- R71, R73, R182, R183: every frame of the transmitter, as the far line unit takes it: its kind code, flags, sequence field,
count and body are those of R182's table, it is of the size of its kind and of its kind's command, it occupies the table's
bytes on the pair, and it lasts exactly 250 µs a byte over its rate code. TEST bodies and PROBE fill bytes are the stream of
R183's fifteen-stage register, eight bits to a byte, the first in bit 7. -/
def Obligations.TransmittedFieldsReadBack : Prop :=
  ∀ (n : BitVec 24) (q : Nat) (p : Pair) (m : BitVec 6),
    let sends (code : Byte) (kind : FrameKind) (size flags seq : Nat) (c : TxContent) (command : Frame → Instr) : Prop :=
      let f := frameOfTx ⟨c, n, q⟩
      frameSizeOk kind f = true ∧ frameCommand p m code f = command f ∧ f.count = n ∧ f.flags.toNat = flags ∧
        f.seq.toNat = seq ∧ txBytes ⟨c, n, q⟩ = sendFrame code f ∧ (txBytes ⟨c, n, q⟩).length = size ∧
        txDuration ⟨c, n, q⟩ = ((size * 250 : Nat) : Rat) / ((q : Nat) : Rat)
    let body (c : TxContent) : List Byte := (frameOfTx ⟨c, n, q⟩).body
    let role (r : Role) : Byte := match r with | .farm => 1 | .cabinet => 2
    let shift (l : List Bool) : List Bool := (l.getD 14 false ^^ l.getD 13 false) :: l.take 14
    let register (i : Nat) : List Bool := (List.range i).foldl (fun l _ => shift l) (List.replicate 15 true)
    let stream (i : Nat) : Bool := (register i).getD 14 false ^^ (register i).getD 13 false
    (∀ x : Fragment, 16 ≤ x.length → x.length ≤ 256 → x.payload.length = x.length →
      let f := frameOfTx ⟨.frag x, n, q⟩
      sends 0x01 .frag (x.length + 10) ((if x.startMark then 128 else 0) + (if x.endMark then 64 else 0)) x.seq.toNat (.frag x)
          (.frag p) ∧
        frameSeq f = x.seq ∧ frameLength f = x.length ∧ frameStartMark f = x.startMark ∧ frameEndMark f = x.endMark ∧
        f.body = x.payload) ∧
      (sends 0x02 .idle 12 0 0 .idle (.idle p) ∧ body .idle = [0, 0]) ∧
      (∀ r : Role, sends 0x10 .wake 12 0 0 (.wake r) (.wake p) ∧ body (.wake r) = [role r, 0]) ∧
      (∀ (r : Role) (lo hi c : Nat) (held : Bool), 1 ≤ lo → lo ≤ hi → hi ≤ 256 → c < 2 ^ 24 →
        let f := frameOfTx ⟨.params r lo hi c held, n, q⟩
        sends 0x11 .params 18 (if held then 16 else 0) 0 (.params r lo hi c held) (.params p) ∧
          frameYoursHeld f = held ∧ paramsOf f = ⟨role r, lo, hi, c⟩) ∧
      (∀ burst rate index : Nat, burst ≤ 16 → 1 ≤ rate → rate ≤ 256 → index ≤ 63 →
        let f := frameOfTx ⟨.probe burst rate index, n, q⟩
        sends 0x12 .probe 64 0 index (.probe burst rate index) (.probe p) ∧ bodyByte f.body 0 = burst ∧
          rateField (bodyWord f.body 1) = rate ∧ (frameSeq f).toNat = index ∧
          ∀ k j : Nat, k < 51 → j < 8 → (f.body.getD (3 + k) 0).getMsbD j = stream (8 * k + j)) ∧
      (∀ rate : Nat, 1 ≤ rate → rate ≤ 256 →
        let f := frameOfTx ⟨.closingProbe rate, n, q⟩
        sends 0x12 .probe 64 32 0 (.closingProbe rate) (.closingProbe p) ∧ bodyByte f.body 0 = 0 ∧
          rateField (bodyWord f.body 1) = rate ∧
          ∀ k j : Nat, k < 51 → j < 8 → (f.body.getD (3 + k) 0).getMsbD j = stream (8 * k + j)) ∧
      (∀ (burst good : Nat) (clean : Bool), burst ≤ 16 → good ≤ 64 →
        let f := frameOfTx ⟨.verdict burst good clean, n, q⟩
        sends 0x13 .verdict 12 0 burst (.verdict burst good clean) (.verdict p) ∧ (frameSeq f).toNat = burst ∧
          bodyByte f.body 0 = good ∧ bodyByte f.body 1 = (if clean then 1 else 0) ∧ verdictClean f = clean) ∧
      (∀ rate : Nat, 1 ≤ rate → rate ≤ 256 →
        sends 0x13 .verdict 12 32 rate (.closingVerdict rate) (.closingVerdict p) ∧ body (.closingVerdict rate) = [0, 1]) ∧
      (sends 0x14 .echoAsk 12 0 0 .echoAsk (.echoAsk p) ∧ body .echoAsk = [0, 0]) ∧
      (∀ x : BitVec 16,
        sends 0x15 .echo 12 0 0 (.echo x) (.echo p) ∧ bodyWord (body (.echo x)) 0 = x.toNat) ∧
      (∀ x : Seq,
        sends 0x20 .test 128 0 x.toNat (.test x) (fun f => .test p f m) ∧ frameSeq (frameOfTx ⟨.test x, n, q⟩) = x ∧
          ∀ k j : Nat, k < 118 → j < 8 →
            ((body (.test x)).getD k 0).getMsbD j = stream (8 * (118 * x.toNat + k) + j)) ∧
      (sends 0x21 .qualified 12 0 0 .qualified (fun f => .qualified p f m) ∧ body .qualified = [0, 0]) ∧
      (∀ rate : Nat, 1 ≤ rate → rate ≤ 256 →
        sends 0x30 .rateAsk 12 0 0 (.rateAsk rate) (.rateAsk p) ∧
          rateField (bodyWord (body (.rateAsk rate)) 0) = rate ∧
          sends 0x31 .rateSwitch 12 0 0 (.rateSwitch rate) (.rateSwitch p) ∧
          rateField (bodyWord (body (.rateSwitch rate)) 0) = rate) ∧
      (∀ r : WindDownReason, r ≠ .farRequest →
        sends 0x32 .windDown 12 0 0 (.windDown r) (.windDown p) ∧
          body (.windDown r) = [match r with | .errors => 0 | .margin => 1 | _ => 2, 0]) ∧
      (sends 0x33 .leave 12 0 0 .leave (.leave p) ∧ body .leave = [0, 0])

/-! ### Shared rules -/

/-- R54, R56, R58, R60: the bid is the least whole number of microseconds that is not less than 250 µs a byte over the
effective rate for the backlog and the offered fragment, plus the path delay. It lies in 26 to 2,210,883, and each end of
that range is the bid of the pair R60 names for it. The effective rate is the send rate in effect with no target pending,
and otherwise the lower of the two. -/
def Obligations.BidIsExactAndInRange : Prop :=
  (∀ (len : Nat) (u : LineUnit), 16 ≤ len → len ≤ 256 → u.queue.length ≤ 32 →
      (∀ f ∈ u.queue, 16 ≤ f.length ∧ f.length ≤ 256) → 1 ≤ effectiveRate u → effectiveRate u ≤ 256 →
      u.delay ≤ 16383 →
      26 ≤ bidOf len u ∧ bidOf len u ≤ 2210883 ∧ u.delay ≤ bidOf len u ∧
        (backlog u + len + 10) * 250 ≤ (bidOf len u - u.delay) * effectiveRate u ∧
        ∀ n : Nat, (backlog u + len + 10) * 250 ≤ n * effectiveRate u → bidOf len u ≤ n + u.delay) ∧
    (∀ u : LineUnit, u.queue = [] → effectiveRate u = 256 → u.delay = 0 → bidOf 16 u = 26) ∧
    (∀ u : LineUnit, u.queue.length = 32 → (∀ f ∈ u.queue, f.length = 256) → effectiveRate u = 1 → u.delay = 16383 →
      bidOf 256 u = 2210883) ∧
    ∀ (u : LineUnit) (target : Nat),
      (u.svc.pendingTarget = none → effectiveRate u = u.sendRate) ∧
        (u.svc.pendingTarget = some target → target < u.sendRate → effectiveRate u = target) ∧
        (u.svc.pendingTarget = some target → u.sendRate ≤ target → effectiveRate u = u.sendRate)

/-- R40, R41, R61: the candidate is an eligible pair of lowest bid, the lowest pair index among equal ones, and there is
none only when no pair is eligible. A pair is eligible in SERVICE with LOS off, below its send limit, with a slot of
the pool free, and with a bid of at most C. -/
def Obligations.CandidateIsTheLowestEligibleBid : Prop :=
  ∀ (len : Nat) (s : State),
    (∀ p, eligiblePair len s p = true ↔
      (line s p).state = .service ∧ (line s p).los = false ∧
        (line s p).queue.length < quadGet (config s).sendLimit p ∧ poolUsed s < 64 ∧
        bidOf len (line s p) ≤ (config s).ceiling) ∧
      (∀ c, (biddingFor len s).candidate = some c →
        eligiblePair len s c.pair = true ∧ c.bid = bidOf len (line s c.pair) ∧
          ∀ p, eligiblePair len s p = true →
            c.bid < bidOf len (line s p) ∨ (c.bid = bidOf len (line s p) ∧ pairIndex c.pair ≤ pairIndex p)) ∧
      ((biddingFor len s).candidate = none → ∀ p, eligiblePair len s p = false)

/-- R20, R21, R184: the record a good start memory gives. Each field is taken from R184's bits, most significant first, and is
used as stored when it lies in its range and as the nearer bound when it does not: the end role, the enables and send limits
of the pair codes, and every number. The min service rate does not exceed the max rate, and the detect timeout is raised
by as little as makes it exceed the longest hold-off. -/
def Obligations.StoredRecordIsInRange : Prop :=
  ∀ r : BitVec 128,
    let c := clampRecord r
    let bits (first width : Nat) : Nat := r.toNat / 2 ^ (128 - first - width) % 2 ^ width
    let within (lo hi x : Nat) : Nat := max lo (min hi x)
    let n := min 10 (bits 16 4)
    c.role = (if bits 0 2 = 2 then .cabinet else .farm) ∧
      (∀ p, let code := bits (2 + 3 * pairIndex p) 3
        (quadGet c.enabled p = true ↔ code ≠ 0) ∧
          quadGet c.sendLimit p = (if 1 ≤ code ∧ code ≤ 4 then 8 * code else 16)) ∧
      c.ceiling = within 1000 1000000 (bits 20 20) ∧ c.skipTime = within 2000 2000000 (bits 43 21) ∧
      c.holdLimit = within 1 1000 (bits 80 10) ∧ c.maxRate = within 1 256 (bits 90 9) ∧
      c.minRate = within 1 c.maxRate (bits 99 9) ∧ c.errorThreshold = within 1 1000 (bits 108 10) ∧
      c.losHold = within 10 2000 (bits 69 11) ∧ c.holdOffBase = within 50 1000 (bits 118 10) ∧
      c.trainingExp = min 10 (bits 64 4) ∧ c.reRateExp = min 6 (bits 40 3) ∧
      (n ≤ c.detectExp ∧ c.holdOffBase < 2 ^ c.detectExp ∧
        ∀ i, n ≤ i → c.holdOffBase < 2 ^ i → c.detectExp ≤ i) ∧
      1000 ≤ c.ceiling ∧ c.ceiling ≤ 1000000 ∧ 2000 ≤ c.skipTime ∧ c.skipTime ≤ 2000000 ∧ 1 ≤ c.holdLimit ∧
      c.holdLimit ≤ 1000 ∧ 1 ≤ c.minRate ∧ c.minRate ≤ c.maxRate ∧ c.maxRate ≤ 256 ∧ 1 ≤ c.errorThreshold ∧
      c.errorThreshold ≤ 1000 ∧ 10 ≤ c.losHold ∧ c.losHold ≤ 2000 ∧ 50 ≤ c.holdOffBase ∧
      c.holdOffBase ≤ 1000 ∧ c.detectExp ≤ 10 ∧ c.trainingExp ≤ 10 ∧ c.reRateExp ≤ 6 ∧
      ∀ p, quadGet c.sendLimit p = 8 ∨ quadGet c.sendLimit p = 16 ∨ quadGet c.sendLimit p = 24 ∨
        quadGet c.sendLimit p = 32

/-- R93: a search whose bursts come out clean exactly up to rate code `best` ends with the trained send rate `best`,
within 16 bursts, for every range `lo` to `hi` that holds it. -/
def Obligations.SearchFindsTheHighestCleanRate : Prop :=
  ∀ lo best hi : Nat, 1 ≤ lo → lo ≤ best → best ≤ hi → hi ≤ 256 →
    searchResult (fun r => decide (r ≤ best)) lo hi 16 (searchStart lo) = some best

/-- R93, R97: one burst result of a search: RISING doubles up to hi and ends there, a failure at lo fails the search, a
failure above it begins HALVING, which bisects until fail - good is 1. -/
def Obligations.BurstResultMovesTheSearch : Prop :=
  ∀ (lo hi c g x n : Nat),
    (c = hi → searchStep lo hi true ⟨.rising, c, some g, none, n⟩ = .done hi) ∧
      (c ≠ hi → searchStep lo hi true ⟨.rising, c, some g, none, n⟩ =
        .next ⟨.rising, min (2 * c) hi, some c, none, n + 1⟩) ∧
      (c = lo → searchStep lo hi false ⟨.rising, c, none, none, n⟩ = .floor) ∧
      (c ≠ lo → 1 < c - g → searchStep lo hi false ⟨.rising, c, some g, none, n⟩ =
        .next ⟨.halving, (g + c) / 2, some g, some c, n + 1⟩) ∧
      (1 < x - c → searchStep lo hi true ⟨.halving, c, some g, some x, n⟩ =
        .next ⟨.halving, (c + x) / 2, some c, some x, n + 1⟩) ∧
      (1 < c - g → searchStep lo hi false ⟨.halving, c, some g, some x, n⟩ =
        .next ⟨.halving, (g + c) / 2, some g, some c, n + 1⟩) ∧
      (x = c + 1 → searchStep lo hi true ⟨.halving, c, some g, some x, n⟩ = .done c) ∧
      (c = g + 1 → searchStep lo hi false ⟨.halving, c, some g, some x, n⟩ = .done g)

/-- R155: the own horizon of an ACTIVE station: UNKNOWN while a pair in service has delivered nothing, OPEN with no pair in
service and nothing held, and otherwise BOUND at a component that no other lies below, relative to E. A stale component,
8192 or more from E, lies below every other, and among stale ones and among the others the one at the smaller distance from
E lies lower. -/
def Obligations.OwnHorizonIsTheLowestComponent : Prop :=
  ∀ (s : State) (e : Seq), s.release.e = some e →
    let ahead (x : Seq) : Nat := (x - e).toNat
    let noHigher (x y : Seq) : Prop :=
      (8192 ≤ ahead y → 8192 ≤ ahead x ∧ ahead x ≤ ahead y) ∧ (ahead y < 8192 → 8192 ≤ ahead x ∨ ahead x ≤ ahead y)
    ((∃ p, inService (line s p) = true ∧ (line s p).lastReceived = none) → ownHorizon s = .unknown) ∧
      ((∀ p, inService (line s p) = false) → s.holdQueue.entries = [] → ownHorizon s = .openEnded) ∧
      ((∀ p, inService (line s p) = true → (line s p).lastReceived ≠ none) →
        (∃ p, inService (line s p) = true) ∨ s.holdQueue.entries ≠ [] →
        ∃ x, ownHorizon s = .bound x ∧
          ((∃ p q, inService (line s p) = true ∧ (line s p).lastReceived = some q ∧ x = q + 1) ∨
            ∃ h t, s.holdQueue.entries = h :: t ∧ x = h.seq) ∧
          (∀ p q, inService (line s p) = true → (line s p).lastReceived = some q → noHigher x (q + 1)) ∧
          ∀ h t, s.holdQueue.entries = h :: t → noHigher x h.seq)

/-- R156, R157: at an ACTIVE station SKIP(E) is placed at once when the hold queue is non-empty, its head is not at E, HOLD
is off, and the own horizon and that of every PRESENT peer are ahead of E, that is, OPEN or BOUND at a distance of 1 to 8191
from E; otherwise nothing changes. -/
def Obligations.EvidenceSkipNeedsEveryHorizonAhead : Prop :=
  ∀ (s : State) (k : StationNo) (e : Seq),
    s.group.mode = .active → s.group.number = some k → s.release.e = some e →
    let ahead (z : Horizon) : Prop := z = .openEnded ∨ ∃ x, z = .bound x ∧ 1 ≤ (x - e).toNat ∧ (x - e).toNat ≤ 8191
    let notAhead (z : Horizon) : Prop :=
      z = .unknown ∨ ∃ x, z = .bound x ∧ ((x - e).toNat = 0 ∨ 8192 ≤ (x - e).toNat)
    (s.holdQueue.entries ≠ [] ∧ (∀ h t, s.holdQueue.entries = h :: t → h.seq ≠ e) ∧ s.release.hold = false ∧
        ahead (ownHorizon s) ∧
        (∀ j, j ≠ k → (stationGet s.group.table j).present = true → ahead (stationGet s.group.table j).horizon) →
      evidenceSkip s = placeBlock .skip ⟨seqValue e, stationAddress k, 0, []⟩ s) ∧
      (s.holdQueue.entries = [] ∨ (∃ h t, s.holdQueue.entries = h :: t ∧ h.seq = e) ∨ s.release.hold = true ∨
          notAhead (ownHorizon s) ∨
          (∃ j, j ≠ k ∧ (stationGet s.group.table j).present = true ∧ notAhead (stationGet s.group.table j).horizon) →
        evidenceSkip s = s)

/-- R150: an ACTIVE station places the RELEASE of its head entry when the head is at E, HOLD is off and no RELEASE of
its own is pending or on the bus; otherwise nothing changes. The broken flag is clear for an entry with a start mark
and BROKEN for any other. -/
def Obligations.ReleaseIsBuiltFromTheHeadAtE : Prop :=
  ∀ (s : State) (k : StationNo) (e : Seq) (h : HoldEntry) (t : List HoldEntry),
    s.group.mode = .active → s.group.number = some k → s.release.e = some e → s.holdQueue.entries = h :: t →
    (h.seq = e ∧ s.release.hold = false ∧ s.port.release = none ∧ ownOnLine s.port .release = false →
      ∃ blk, tryRelease s = placeBlock .release blk s ∧ valueSeq blk.value = e ∧ blk.sender = stationAddress k ∧
        blk.body.drop 3 = h.payload ∧ bodyWord blk.body 0 = h.length % 65536 ∧
        (blk.body.getD 2 0).getLsbD 7 = h.startMark ∧ releaseEndMark blk = h.endMark ∧
        releaseBroken blk = (!h.startMark && s.release.broken)) ∧
      (h.seq ≠ e ∨ s.release.hold = true ∨ s.port.release ≠ none ∨ ownOnLine s.port .release = true →
        tryRelease s = s)

/-- R145, R136, R153, R156, R157: a move of E at an ACTIVE station: the entries 1024 or more from E are purged and counted
as stale, a pending RELEASE, SKIP and REBASE are withdrawn, the skip timer is loaded while the head is not at E and STOPPED
otherwise, a RELEASE of an entry now at E is placed with HOLD off, SKIP(E) is placed when an entry waits, HOLD is off, and
the own horizon after the move and that of every PRESENT peer are ahead of the new E, and nothing else changes. -/
def Obligations.MoveOfEPurgesAndResets : Prop :=
  ∀ (s : State) (k : StationNo) (e : Seq),
    s.group.mode = .active → s.group.number = some k → s.release.e = some e → s.port.onLine = none →
    let t := moveE s
    let kept := s.holdQueue.entries.filter (fun h => decide (seqDist e h.seq < 1024))
    let ahead (z : Horizon) : Prop := z = .openEnded ∨ ∃ x, z = .bound x ∧ 1 ≤ (x - e).toNat ∧ (x - e).toNat ≤ 8191
    let skips : Prop :=
      (∃ h r, kept = h :: r ∧ h.seq ≠ e) ∧ s.release.hold = false ∧ ahead (ownHorizon t) ∧
        ∀ j, j ≠ k → (stationGet s.group.table j).present = true → ahead (stationGet s.group.table j).horizon
    t.holdQueue = { s.holdQueue with entries := kept } ∧
      t.status =
        { s.status with
          live.station.stale := satAdd s.status.live.station.stale (s.holdQueue.entries.length - kept.length) } ∧
      t.port = { s.port with rebase := none, skip := t.port.skip, release := t.port.release } ∧
      t.port.release =
        (match kept with
        | h :: _ =>
          if h.seq = e ∧ s.release.hold = false then some ⟨releaseBlock k s.release.broken h, 0⟩ else none
        | [] => none) ∧
      t.release.skipTimer =
        (match kept with
        | h :: _ =>
          if h.seq = e then .stopped
          else if s.release.hold then .frozen (effectiveSkip s)
          else .running (effectiveSkip s)
        | [] => .stopped) ∧
      (skips → t.port.skip = some ⟨⟨seqValue e, stationAddress k, 0, []⟩, 0⟩) ∧ (¬skips → t.port.skip = none) ∧
      t.release = { s.release with skipTimer := t.release.skipTimer } ∧ t.group = s.group ∧ t.lines = s.lines ∧
      t.sequencer = s.sequencer ∧ t.timeBase = s.timeBase ∧ t.pending = s.pending

/-- R152 to R154, R163: the effective skip time is the greatest of the record's skip time and, for each pair in SERVICE or
WIND-DOWN, its far ceiling plus 5,000 µs. The expiry of a skip timer that has run to 0 leaves it EXPIRED and places SKIP(E), from this
station, in its slot. One taken while the timer has time left, as after a load in the same moment, or does not run, has no
effect: no SKIP is placed. -/
def Obligations.SkipTimerIsLoadedAndExpires : Prop :=
  (∀ s : State,
    (config s).skipTime ≤ effectiveSkip s ∧
      (∀ p, inService (line s p) = true → (line s p).farCeiling + 5000 ≤ effectiveSkip s) ∧
      (effectiveSkip s = (config s).skipTime ∨
        ∃ p, inService (line s p) = true ∧ effectiveSkip s = (line s p).farCeiling + 5000)) ∧
    (∀ (s : State) (k : StationNo) (e : Seq),
      s.release.skipTimer = .running 0 → s.group.number = some k → s.release.e = some e →
      exec .skipTimerExpiry s =
        .next
          { s with
            port := { s.port with skip := some ⟨⟨seqValue e, stationAddress k, 0, []⟩, 0⟩ }
            release := { s.release with skipTimer := .expired } }) ∧
    ∀ s : State, s.release.skipTimer ≠ .running 0 → exec .skipTimerExpiry s = .next s

/-- R131 to R133, R138, R139: an arrival is stale from distance 8192, far ahead from 1024, a duplicate of a held number,
or for storage; at a full queue it evicts the tail when it is nearer to E and is dropped otherwise. The run-away counter
rises at a stale or far-ahead arrival, asks for a REBASE at 16, and returns to 0 at a stored one. -/
def Obligations.ArrivalIsClassifiedAgainstE : Prop :=
  ∀ (s : State) (k : StationNo) (e : Seq) (x : HoldEntry),
    s.group.mode = .active → s.group.number = some k → HoldQueueLaw s → s.release.e = some e →
    let d := seqDist e x.seq
    let t := classifyArrival e x s
    let held := s.holdQueue.entries
    (8192 ≤ d → t.holdQueue.entries = held ∧
        t.status.live.station = { s.status.live.station with stale := satInc s.status.live.station.stale }) ∧
      (1024 ≤ d → d < 8192 → t.holdQueue.entries = held ∧
        t.status.live.station = { s.status.live.station with farAhead := satInc s.status.live.station.farAhead }) ∧
      (1024 ≤ d → s.holdQueue.runaway < 15 → t.holdQueue.runaway = s.holdQueue.runaway + 1 ∧ t.port = s.port) ∧
      (1024 ≤ d → s.holdQueue.runaway = 15 → t.holdQueue.runaway = 0 ∧
        t.port.rebase = some ⟨⟨seqValue x.seq, stationAddress k, 0, []⟩, 0⟩) ∧
      (d < 1024 → (∃ h ∈ held, h.seq = x.seq) → t.holdQueue = s.holdQueue ∧
        t.status.live.station = { s.status.live.station with duplicates := satInc s.status.live.station.duplicates }) ∧
      (d < 1024 → (∀ h ∈ held, h.seq ≠ x.seq) → held.length < 96 →
        (∀ y, y ∈ t.holdQueue.entries ↔ y = x ∨ y ∈ held) ∧ t.holdQueue.runaway = 0 ∧
          t.status.live.station = { s.status.live.station with accepted := s.status.live.station.accepted + 1 }) ∧
      (∀ tail, d < 1024 → (∀ h ∈ held, h.seq ≠ x.seq) → held.length = 96 → held.getLast? = some tail →
        seqDist e x.seq < seqDist e tail.seq →
        (∀ y, y ∈ t.holdQueue.entries ↔ y = x ∨ (y ∈ held ∧ y ≠ tail)) ∧ t.holdQueue.runaway = 0 ∧
          t.status.live.station =
            { s.status.live.station with
              accepted := s.status.live.station.accepted + 1
              overflows := satInc s.status.live.station.overflows }) ∧
      (∀ tail, d < 1024 → (∀ h ∈ held, h.seq ≠ x.seq) → held.length = 96 → held.getLast? = some tail →
        seqDist e tail.seq < seqDist e x.seq →
        t.holdQueue = s.holdQueue ∧
          t.status.live.station =
            { s.status.live.station with overflows := satInc s.status.live.station.overflows }) ∧
      t.group = s.group ∧ t.lines = s.lines ∧ t.sequencer = s.sequencer ∧ t.release = s.release

/-- R173, R176, R177: an event is stored at the newest end with the time base as its stamp, the oldest giving way in a
ring of 16; a FROZEN ring stays as it is and the events-missed count rises, saturating. -/
def Obligations.EventIsStoredOrMissed : Prop :=
  ∀ (kind : EventKind) (subject value : Nat) (s : State),
    let x : RingEvent := ⟨kind, subject, value, s.timeBase⟩
    let t := recordEvent kind subject value s
    (s.status.frozen = false → s.status.ring.length < 16 →
        t = { s with status := { s.status with ring := s.status.ring ++ [x] } }) ∧
      (s.status.frozen = false → s.status.ring.length = 16 →
        t = { s with status := { s.status with ring := s.status.ring.tail ++ [x] } }) ∧
      (s.status.frozen = true →
        t = { s with status := { s.status with missed := satInc s.status.missed } }) ∧
      (satInc s.status.missed).toNat = min 65535 (s.status.missed.toNat + 1)

/-! ### The group monitor's commands -/

/-- R18 to R20, R22, R83: CHAIN_IN seen asserted in WAITING begins the start record read, with its 2 ms limit, and has no
effect in any other mode. In READING, eighteen bytes whose last two give the sum of the sixteen before them, modulo 65536,
store the clamped record; a wrong sum, or a start memory that does not answer, stores the built-in defaults with the flag
set. Either way LISTENING begins, for 8 ms with a number and 16 ms without, each disabled pair is OFF and every other pair
is as it was. The model's choices: the timeout, which stands for a read that is not acknowledged too, is taken at any
moment in READING (log 2); bytes that come in the very moment the 2 ms run out, before the timeout, are in time (log 36).
-/
def Obligations.RecordReadBeginsListening : Prop :=
  ∀ (record : BitVec 128) (sum : BitVec 16) (s : State),
    let listens (s t : State) (r : StartRecord) (flag : Bool) : Prop :=
      t.group =
          { s.group with
            mode := .listening
            record := some r
            defaultsInUse := flag
            readTimer := .stopped
            join := ⟨.all false, none⟩
            listening := .running (if s.group.number.isSome then 8000 else 16000) } ∧
        (∀ p, quadGet r.enabled p = true → line t p = line s p) ∧
        (∀ p, quadGet r.enabled p = false → (line t p).state = .off ∧ (line t p).tx = none) ∧
        t = { s with group := t.group, lines := t.lines }
    let sumOfBytes : Nat :=
      ((List.range 16).map (fun i => (record >>> (120 - 8 * i)).toNat % 256)).sum % 65536
    (s.group.mode = .waiting →
      exec .chainInAsserted s =
        .next { s with group := { s.group with mode := .reading, readTimer := .running 2000 } }) ∧
      (s.group.mode ≠ .waiting → exec .chainInAsserted s = .next s) ∧
      (s.group.mode = .reading → sum.toNat = sumOfBytes →
        ∃ t, exec (.startRecordRead record sum) s = .next t ∧ listens s t (clampRecord record) false) ∧
      (s.group.mode = .reading → sum.toNat ≠ sumOfBytes →
        ∃ t, exec (.startRecordRead record sum) s = .next t ∧ listens s t .defaults true) ∧
      (s.group.mode = .reading → ∃ t, exec .startMemoryTimeout s = .next t ∧ listens s t .defaults true) ∧
      (s.group.mode ≠ .reading →
        exec (.startRecordRead record sum) s = .next s ∧ exec .startMemoryTimeout s = .next s)

/-- R15, R16, R35, R53, R80, R105, R142, R165, R178: a bus reset empties the bus port, the send sequencer, the queues, the
hold queue, the release controller and the status unit; each enabled pair is in held QUIET with k = 0 and each disabled
one OFF; from LISTENING on the station holds its listening period, and the number, the start record and CHAIN_OUT stay.
The line is held dominant, and the bus port starts nothing, until the release of the bus, at which the held period starts,
8 ms with a number and 16 ms without. The model's choices: the fields of a line unit for which the manual gives no reset
value return to those of a pin reset (log 29); while the line is held dominant the station's contention has no effect, and
a release of a line that no bus reset holds has none either (log 24). -/
def Obligations.BusResetReturnsToHeldListening : Prop :=
  (∀ s : State, ∃ t, exec .busReset s = .next t ∧
      (∀ k, slotOf t.port k = none) ∧ t.port.onLine = none ∧ t.port.receiveBuffer = none ∧ t.port.latch = none ∧
      t.port.slotOpen = false ∧ t.port.dominant = true ∧ t.sequencer = ⟨none, .idle, none, none⟩ ∧
      t.holdQueue = ⟨[], 0⟩ ∧
      t.release = ⟨none, false, false, .stopped, .stopped⟩ ∧ t.status = State.reset.status ∧ t.timeBase = 0 ∧
      t.pending = s.pending ∧
      (∀ p, quadGet (config s).enabled p = true → line t p = LineUnit.reset) ∧
      (∀ p, quadGet (config s).enabled p = false →
        line t p = { LineUnit.reset with state := .off, holdOff := .stopped }) ∧
      (s.group.mode = .waiting ∨ s.group.mode = .reading → t.group = s.group) ∧
      (s.group.mode ≠ .waiting → s.group.mode ≠ .reading →
        t.group =
          { s.group with
            mode := .listening
            beacon := .stopped
            table := .all ⟨false, 0, 0, false, .unknown, 0⟩
            join := ⟨.all false, none⟩
            listening := .held })) ∧
    (∀ (s : State) (others : List ArbField), s.port.dominant = true →
      exec (.busIdleContend others) s = .next s ∧
        ∃ t, exec .busRelease s = .next t ∧ t.port = { s.port with dominant := false } ∧
          (s.group.listening = .held →
            t.group = { s.group with listening := .running (if s.group.number.isSome then 8000 else 16000) }) ∧
          (s.group.listening ≠ .held → t.group = s.group) ∧ t = { s with port := t.port, group := t.group }) ∧
    ∀ s : State, s.port.dominant = false → exec .busRelease s = .next s

/-- R23, R24, R84, R144: at the end of the listening period a station enters ACTIVE with the number it holds or the lowest
that was not heard, asserting CHAIN_OUT, with NS and E from the join values or 0, its held hold-offs started and its beacon
running; with all six heard it becomes SPARE with every pair OFF, HOLD off and both timers of the release controller
stopped. That its end has no effect while the period has time left is the model's choice (log 2). -/
def Obligations.ListeningEndMakesActiveOrSpare : Prop :=
  ∀ (s : State) (n : Nat), s.group.mode = .listening →
    (s.group.listening = .running (n + 1) → exec .listeningPeriodEnd s = .next s) ∧
    (s.group.listening = .running 0 → s.holdQueue.entries = [] →
    (∀ k, (s.group.number = some k ∨
          (s.group.number = none ∧ stationGet s.group.join.heard k = false ∧
            ∀ j, stationIndex j < stationIndex k → stationGet s.group.join.heard j = true)) →
        ∃ t, exec .listeningPeriodEnd s = .next t ∧
          t.group =
            { s.group with
              mode := .active
              number := some k
              chainOut := true
              listening := .none
              join := ⟨.all false, none⟩
              beacon := .running 1000 } ∧
          (∀ v, s.group.join.values = some v → t.sequencer.ns = some v.ns ∧ t.release.e = some v.e) ∧
          (s.group.join.values = none → t.sequencer.ns = some 0 ∧ t.release.e = some 0) ∧
          t.release = { s.release with e := t.release.e, broken := false } ∧
          t.sequencer = { s.sequencer with ns := t.sequencer.ns } ∧
          (∀ p, (line s p).holdOff = .held →
            line t p =
              { line s p with holdOff := .running ((config s).holdOffBase * 2 ^ (line s p).k * 1000) }) ∧
          (∀ p, (line s p).holdOff ≠ .held → line t p = line s p) ∧
          t.port = s.port ∧ t.holdQueue = s.holdQueue ∧ t.timeBase = s.timeBase ∧ t.pending = s.pending) ∧
      (s.group.number = none → (∀ k, stationGet s.group.join.heard k = true) →
        ∃ t, exec .listeningPeriodEnd s = .next t ∧ t.group.mode = .spare ∧ t.group.number = none ∧
          t.group.chainOut = s.group.chainOut ∧ (∀ p, (line t p).state = .off ∧ (line t p).tx = none) ∧
          t.release = { s.release with hold := false, holdTimer := .stopped, skipTimer := .stopped } ∧
          t.port = s.port ∧ t.sequencer = s.sequencer ∧ t.status = s.status))

/-- R25, R26, R29, R30, R157: at a beacon expiry an ACTIVE station places a MARK of its end role, NS, E, horizon, pairs in
service and send capacity; a peer heard since the last expiry loses its flag, one that was not is missed once more and is
ABSENT at the fourth miss, with a "peer absent" event of its number, and no other event is handed over; the timer runs on.
Where a peer has become ABSENT the evidence skip is tested on the updated table, and the SKIP slot is as it was where none
has. The model's choices: an expiry while the timer has time left has no effect (log 2), and peers that become ABSENT at one
moment hand over their events in ascending order (log 13). -/
def Obligations.BeaconExpiryPlacesAMarkAndUpdatesPresence : Prop :=
  (∀ (s : State) (n : Nat), s.group.beacon = .running (n + 1) → exec .beaconExpiry s = .next s) ∧
  ∀ (s : State) (k : StationNo) (ns e : Seq),
    s.group.mode = .active → s.group.number = some k → s.group.beacon = .running 0 → s.sequencer.ns = some ns →
    s.release.e = some e →
    ∃ t x, exec .beaconExpiry s = .next t ∧ t.port.mark = some ⟨x, 0⟩ ∧ x.sender = stationAddress k ∧
      x.body.length = 11 ∧ x.body.getD 0 0 = roleByte (config s).role ∧ bodySeq x.body 1 = ns ∧
      bodySeq x.body 3 = e ∧ horizonOfBody x.body = ownHorizon s ∧
      bodyByte x.body 8 = (allPairs.filter (fun p => (line s p).state == .service)).length ∧
      bodyWord x.body 9 =
        ((allPairs.filter (fun p => (line s p).state == .service)).map (fun p => (line s p).sendRate)).sum % 65536 ∧
      (∀ j, j ≠ k → (stationGet s.group.table j).heardNow = true →
        stationGet t.group.table j = { stationGet s.group.table j with heardNow := false }) ∧
      (∀ j, j ≠ k → (stationGet s.group.table j).heardNow = false →
        (stationGet s.group.table j).present = false ∨ (stationGet s.group.table j).missed < 3 →
        stationGet t.group.table j =
          { stationGet s.group.table j with
            heard := 0
            missed := min 15 ((stationGet s.group.table j).missed + 1) }) ∧
      (∀ j, j ≠ k → (stationGet s.group.table j).heardNow = false → (stationGet s.group.table j).present = true →
        3 ≤ (stationGet s.group.table j).missed →
        stationGet t.group.table j =
          ⟨false, 0, min 15 ((stationGet s.group.table j).missed + 1), false, .unknown, 0⟩) ∧
      stationGet t.group.table k = stationGet s.group.table k ∧
      t.group = { s.group with table := t.group.table, beacon := .running 1000 } ∧
      t.port = { s.port with mark := t.port.mark, skip := t.port.skip } ∧
      ((∃ j, j ≠ k ∧ (stationGet s.group.table j).heardNow = false ∧ (stationGet s.group.table j).present = true ∧
          3 ≤ (stationGet s.group.table j).missed) →
        t.port.skip = (evidenceSkip { s with group := t.group }).port.skip) ∧
      ((∀ j, j ≠ k → (stationGet s.group.table j).heardNow = false → (stationGet s.group.table j).present = true →
          (stationGet s.group.table j).missed < 3) →
        t.port.skip = s.port.skip) ∧
      (t.port.skip = s.port.skip ∨ t.port.skip = some ⟨⟨seqValue e, stationAddress k, 0, []⟩, 0⟩) ∧
      t = { s with port := t.port, group := t.group, status := t.status } ∧
      t.status =
        ((allStations.filter
              (fun j =>
                j != k && !(stationGet s.group.table j).heardNow && (stationGet s.group.table j).present &&
                  decide (3 ≤ (stationGet s.group.table j).missed))).foldl
            (fun v j => recordEvent .peerAbsent (stationIndex j) 0 v) s).status

/-- R7, R13, R22, R27, R28, R30, R32, R157: an admitted MARK through the receiver. From a peer of an ACTIVE station it
raises the heard count, clears the missed count, sets the flag and replaces the horizon and the capacity; the third in a
row makes an ABSENT entry PRESENT, with a "peer present" event of its number, and no other event is handed over. Where the
horizon or the presence has changed the evidence skip is tested on the updated table, and the SKIP slot is as it was
otherwise. In LISTENING it adds the number to those heard and sets the join values. A MARK that is not admitted, from
address 6 or 7, of another length than 11 bytes or of the other end role, one that comes in any other mode, and the
station's own as it completes, change nothing but the end of their block. The model's readings: an own block that is
observed is the one that was on the line (log 5); a MARK from address 6, which R3 discards, has run in an open claim slot
and closes it, as a block of any other address does (log 7). -/
def Obligations.MarkOfAPeerIsTakenIn : Prop :=
  ∀ (s : State) (blk : BusBlock),
    let u := closeByOther (blockEnded s)
    (∀ j : StationNo, stationOfAddress blk.sender = some j → blk.body.length = 11 →
      blk.body.getD 0 0 = roleByte (config s).role → s.group.number ≠ some j →
      let old := stationGet s.group.table j
      (s.group.mode = .active →
        ∃ t, exec (.mark (.heard blk)) s = .next t ∧
          stationGet t.group.table j =
            { present := old.present || decide (3 ≤ min 15 (old.heard + 1))
              heard := min 15 (old.heard + 1)
              missed := 0
              heardNow := true
              horizon := horizonOfBody blk.body
              capacity := min 1024 (bodyWord blk.body 9) } ∧
          (∀ i, i ≠ j → stationGet t.group.table i = stationGet s.group.table i) ∧
          t.group = { s.group with table := t.group.table } ∧ t.port = { u.port with skip := t.port.skip } ∧
          t = { u with port := t.port, group := t.group, status := t.status } ∧
          ((old.present = false ∧ 2 ≤ old.heard) ∨ horizonOfBody blk.body ≠ old.horizon →
            t.port.skip = (evidenceSkip { u with group := t.group }).port.skip) ∧
          (old.present = true ∨ old.heard < 2 → horizonOfBody blk.body = old.horizon → t.port = u.port) ∧
          (old.present = false → 2 ≤ old.heard →
            t.status = (recordEvent .peerPresent (stationIndex j) 0 u).status) ∧
          (old.present = true ∨ old.heard < 2 → t.status = u.status)) ∧
        (s.group.mode = .listening →
          exec (.mark (.heard blk)) s =
            .next
              { u with
                group :=
                  { s.group with
                    join :=
                      ⟨stationSet s.group.join.heard j true,
                        some ⟨bodySeq blk.body 1, bodySeq blk.body 3⟩⟩ } })) ∧
      (blk.sender.toNat = 6 ∨ blk.sender.toNat = 7 ∨ blk.body.length ≠ 11 ∨
          blk.body.getD 0 0 ≠ roleByte (config s).role →
        exec (.mark (.heard blk)) s = .next u) ∧
      (s.group.mode ≠ .active → s.group.mode ≠ .listening → exec (.mark (.heard blk)) s = .next u) ∧
      (∀ x, s.port.onLine = some x → x.kind = .mark →
        exec (.mark .own) s =
          .next { s with port := { s.port with onLine := none, receiveBuffer := none, idleWait := 2 } })

/-- R32, R33, R16, R76, R77, R85, R86, R123, R125, R142, R165: a MARK in the station's own number, heard through its
receiver in LISTENING or ACTIVE, puts it in CONFLICT: the beacon stops, the pending slots, the join record and the hold
queue are empty, HOLD is off, the number, the table, NS, E and BROKEN stay, and every pair goes OFF with nothing running
or pending. It sends one LEAVE, at rate code 1 from DETECT and TRAIN, at the trained send rate from QUALIFY, and at the
send rate in effect from SERVICE and from a WIND-DOWN whose own LEAVE has not started; QUIET sends none. A pair in service
exits: k is raised while the service clock shows less than 60 s, its fragments are discarded and counted so, and a "left
service" event has its index and the reason CONFLICT. The model's readings and choices: the join record, which the entry
from LISTENING leaves without a use, is empty (log 23); a pair with its own LEAVE on it waits in WIND-DOWN for that
LEAVE's end and then exits so, with no second LEAVE (log 12), the pair then having no frame on it (log 8); any other is
OFF at once, its parting LEAVE running on (log 37); an exit as the service clock comes to 60 s leaves k 0 (log 35); the
last trained values, D and the far ceiling stay (log 27), as do the last margin and rates in effect (log 15); the pairs
are taken A to D (log 13). -/
def Obligations.OwnNumberHeardMakesConflict : Prop :=
  let kept (u : LineUnit) : Nat :=
    match u.serviceClock with
    | .stopped => u.k
    | .running 0 => 0
    | .running (_ + 1) => min 7 (u.k + 1)
  let off (u : LineUnit) (k : Nat) (queue : List Fragment) (parting : Option Nat) : LineUnit :=
    { u with
      state := .off
      k := k
      queue := queue
      holdOff := .stopped
      monitor := .stopped
      lit := false
      detect := .stopped
      training := .stopped
      qualification := .stopped
      train := .start
      qualify := .start
      serviceClock := .stopped
      svc := .clear
      ctl := .empty
      tx := parting.map (fun rate => ⟨.leave, u.txCount, rate⟩)
      txCount := if parting.isSome then u.txCount + 1 else u.txCount }
  let left (p : Pair) (u : LineUnit) (t : State) : State :=
    recordEvent .leftService (pairIndex p) 4
      (countPair p (fun c => { c with discarded := c.discarded + BitVec.ofNat 32 u.queue.length }) t)
  (∀ (s : State) (k : StationNo) (blk : BusBlock),
      s.group.mode = .active ∨ s.group.mode = .listening → s.group.number = some k →
      stationOfAddress blk.sender = some k → blk.body.length = 11 →
      blk.body.getD 0 0 = roleByte (config s).role →
      let v := closeByOther (blockEnded s)
      let ownLeave (u : LineUnit) : Option Nat :=
        if u.svc.windDown.any (fun w => w.leaveStarted) then none else some u.sendRate
      let parts (u : LineUnit) : LineUnit :=
        match u.state with
        | .off => off u u.k u.queue none
        | .quiet => off u u.k u.queue none
        | .detect => off u u.k u.queue (some 1)
        | .train => off u u.k u.queue (some 1)
        | .qualify => off u u.k u.queue (some u.trainedSend)
        | .service => off u (kept u) [] (ownLeave u)
        | .windDown => off u (kept u) [] (ownLeave u)
      let waits (u : LineUnit) : LineUnit :=
        { u with
          svc :=
            { u.svc with
              windDown := u.svc.windDown.map (fun w => { w with timer := .stopped, deferred := some .conflict }) } }
      ∃ t, exec (.mark (.heard blk)) s = .next t ∧
        t.group = { s.group with mode := .conflict, beacon := .stopped, listening := .none, join := ⟨.all false, none⟩ } ∧
        (∀ i, slotOf t.port i = none) ∧
        t.port.onLine = s.port.onLine.map (fun x => { x with retry := false }) ∧ t.holdQueue = ⟨[], 0⟩ ∧
        t.release = { s.release with hold := false, holdTimer := .stopped, skipTimer := .stopped } ∧
        t.sequencer = v.sequencer ∧ t.sequencer.ns = s.sequencer.ns ∧
        (∀ p, ownLeaveOnPair (line s p) = false → line t p = parts (line s p)) ∧
        (∀ p, ownLeaveOnPair (line s p) = true → line t p = waits (line s p)) ∧
        t.status =
          ((allPairs.filter (fun p => inService (line s p) && !ownLeaveOnPair (line s p))).foldl
              (fun z p => left p (line s p) z) v).status ∧
        t = { s with port := t.port, group := t.group, sequencer := t.sequencer, lines := t.lines,
                     holdQueue := t.holdQueue, release := t.release, status := t.status }) ∧
    ∀ (p : Pair) (s : State) (i : BitVec 24) (r : Nat) (w : WindDownRecord),
      let u := line s p
      u.state = .windDown → u.tx = some ⟨.leave, i, r⟩ → u.svc.windDown = some w → w.leaveStarted = true →
      w.deferred = some .conflict →
      exec (.ownLeaveSent p) s =
        .next (evidenceSkip (left p u (setLine p (off u (kept u) [] none) s)))

/-! ### The bus port's commands -/

/-- R4, R5, R9, R13: at an idle bus an ACTIVE station starts its pending block of lowest kind code, or in an open claim
slot its CLAIM and nothing else. It goes on when no other arbitration field is lower; otherwise the block stays pending
with its count, a CLAIM excepted, whose slot empties. A station with nothing to start, or not ACTIVE, only listens. The
model's choice: a block is on the line from its contention to the command that names its end, and the receive buffer holds
the arbitration field that won (log 24). -/
def Obligations.LowestFieldTakesTheIdleBus : Prop :=
  ∀ (s : State) (others : List ArbField),
    s.port.onLine = none → s.port.receiveBuffer = none → s.port.dominant = false →
    (∀ k x, s.group.mode = .active → slotOf s.port k = some x →
        (s.port.slotOpen = true ∧ k = .claim ∨
          s.port.slotOpen = false ∧ k ≠ .claim ∧
            ∀ j, j ≠ .claim → (slotCode j).toNat < (slotCode k).toNat → slotOf s.port j = none) →
        ((∀ f ∈ others, (arbField (slotCode k) x.block).toNat ≤ f.toNat) →
          exec (.busIdleContend others) s =
            .next
              { s with
                port :=
                  { setSlot s.port k none with
                    onLine := some ⟨k, x.block, x.fails, true⟩
                    receiveBuffer := some (arbField (slotCode k) x.block) } }) ∧
          ((∃ f ∈ others, f.toNat < (arbField (slotCode k) x.block).toNat) →
            ∃ t w, exec (.busIdleContend others) s = .next t ∧ w ∈ others ∧ (∀ f ∈ others, w.toNat ≤ f.toNat) ∧
              t.port =
                { (if k = .claim then setSlot s.port .claim none else s.port) with receiveBuffer := some w } ∧
              t = { s with port := t.port })) ∧
      (s.group.mode ≠ .active ∨ (s.port.slotOpen = true ∧ s.port.claim = none) ∨
          (s.port.slotOpen = false ∧ ∀ k, k ≠ .claim → slotOf s.port k = none) →
        ∃ t, exec (.busIdleContend others) s = .next t ∧ t.port.onLine = none ∧
          (others = [] → t = s) ∧ t = { s with port := { s.port with receiveBuffer := t.port.receiveBuffer } })

/-- R6, R10, R11, R14, R42, R47, R150 to R152, R154, R157: an aborted block other than a CLAIM is off the line and counts a
send abort and a bad block. With contents held aside it is given up for them; withdrawn, it is not retried; and otherwise it
is pending again with its count raised, until the fourth failure drops and counts it. An aborted CLAIM is not retried and
not counted as dropped, and its claim slot, when open, closes with no claim: a station that was CLAIMING has lost a claim, a
well-formed offer judged in ACTIVE is unclaimed, and the latch, the verdict and the record are gone. A dropped RELEASE's
entry is discarded, and where a head that is not at E then waits at an ACTIVE station the skip timer is loaded, frozen while
HOLD is on. A dropped SKIP loads it again while a head waits and HOLD is off. After either the evidence skip is tested,
which alone may fill the SKIP slot; every other slot is as it was. The model's readings: the sender counts a bad block too
(log 6); the dropped RELEASE's waiting condition begins at the removal, and once a withdrawn RELEASE has left the line the
RELEASE of a head at E is placed (log 11). -/
def Obligations.AbortedBlockIsRetriedOrDropped : Prop :=
  (∀ (s : State) (x : OnLine), s.port.onLine = some x → x.kind ≠ .claim →
      let c := s.status.live.station
      let aborted :=
        { s with
          port := { s.port with onLine := none, receiveBuffer := none, idleWait := 8 }
          status :=
            { s.status with
              live.station := { c with sendAborts := satInc c.sendAborts, badBlocks := satInc c.badBlocks } } }
      (slotOf s.port x.kind ≠ none → exec .sendAbort s = .next aborted) ∧
        (slotOf s.port x.kind = none → x.retry = false → x.kind ≠ .release → exec .sendAbort s = .next aborted) ∧
        (slotOf s.port x.kind = none → x.retry = false → x.kind = .release →
          exec .sendAbort s = .next (tryRelease aborted)) ∧
        (slotOf s.port x.kind = none → x.retry = true → x.fails < 3 →
          exec .sendAbort s =
            .next { aborted with port := setSlot aborted.port x.kind (some ⟨x.block, x.fails + 1⟩) }) ∧
        (slotOf s.port x.kind = none → x.retry = true → 3 ≤ x.fails →
          let dropped :=
            { aborted with
              status :=
                { aborted.status with
                  live.station := { aborted.status.live.station with droppedBlocks := satInc c.droppedBlocks } } }
          ∃ t, exec .sendAbort s = .next t ∧ slotOf t.port .mark = s.port.mark ∧ t.status = dropped.status ∧
            t.port = { dropped.port with skip := t.port.skip } ∧ (x.kind ≠ .skip → slotOf t.port x.kind = none) ∧
            (x.kind = .mark ∨ x.kind = .reply ∨ x.kind = .rebase → t = dropped) ∧
            (x.kind = .release ∨ x.kind = .skip →
              t = evidenceSkip { dropped with holdQueue := t.holdQueue, release := t.release }) ∧
            t.status.live.station.droppedBlocks = satInc c.droppedBlocks ∧ t.release.e = s.release.e ∧
            (x.kind = .mark ∨ x.kind = .reply ∨ x.kind = .rebase → slotOf t.port x.kind = none ∧
              t.holdQueue = s.holdQueue ∧ t.release = s.release) ∧
            (x.kind = .release →
              let kept := s.holdQueue.entries.filter (fun h => h.seq != valueSeq x.block.value)
              let waits : Prop := s.group.mode = .active ∧ ∃ h rest, kept = h :: rest ∧ s.release.e ≠ some h.seq
              t.holdQueue = { s.holdQueue with entries := kept } ∧
                (waits →
                  t.release =
                    { s.release with
                      skipTimer :=
                        if s.release.hold then .frozen (effectiveSkip s) else .running (effectiveSkip s) }) ∧
                (¬waits → t.release = s.release)) ∧
            (x.kind = .skip →
              t.holdQueue = s.holdQueue ∧
                (s.group.mode = .active → waiting s = true → s.release.hold = false →
                  t.release = { s.release with skipTimer := .running (effectiveSkip s) }) ∧
                (s.group.mode ≠ .active ∨ waiting s = false ∨ s.release.hold = true → t.release = s.release)) ∧
            t.lines = s.lines ∧ t.group = s.group ∧ t.sequencer = s.sequencer)) ∧
    ∀ (s : State) (x : OnLine), s.port.onLine = some x → x.kind = .claim →
      let c := s.status.live.station
      let aborted : State :=
        { s with
          port := { s.port with onLine := none, receiveBuffer := none, idleWait := 8 }
          status :=
            { s.status with
              live.station := { c with sendAborts := satInc c.sendAborts, badBlocks := satInc c.badBlocks } } }
      (s.port.slotOpen = false → exec .sendAbort s = .next aborted) ∧
        (s.port.slotOpen = true →
          exec .sendAbort s =
            .next
              { aborted with
                port := { aborted.port with slotOpen := false, claim := none, latch := none }
                sequencer := ⟨s.sequencer.ns, .idle, none, none⟩
                status :=
                  { aborted.status with
                    live.station :=
                      { aborted.status.live.station with
                        claimsLost := if s.sequencer.phase = .claiming then c.claimsLost + 1 else c.claimsLost
                        unclaimed :=
                          if s.sequencer.verdict = some .wellFormed ∧
                            (∃ b, s.sequencer.bidding = some b ∧ b.active = true)
                          then c.unclaimed + 1
                          else c.unclaimed } } })

/-- R4, R6, R7, R13, R42, R47: a bad block is counted and ignored, a REPLY is read by no station, and neither leaves an
open claim slot open: it closes with no claim, as it does when no block starts in it. At the close the latch, the verdict
and the record are gone, a station that was CLAIMING has lost a claim, and a well-formed offer judged in ACTIVE is
unclaimed. While the own CLAIM is on the line its own end closes the slot. The model's choice and readings: the slot's
timeout is taken while the line is free (log 24); an own block that is observed is the one that was on the line (log 5); a
REPLY from address 6 closes the slot as any other does (log 7). -/
def Obligations.BlocksAndTimeoutsCloseTheClaimSlot : Prop :=
  ∀ (s : State) (cause : BadCause) (blk : BusBlock),
    let c := s.status.live.station
    let closed : State :=
      { s with
        port := { s.port with slotOpen := false, claim := none, latch := none }
        sequencer := ⟨s.sequencer.ns, .idle, none, none⟩
        status :=
          { s.status with
            live.station :=
              { c with
                claimsLost := if s.sequencer.phase = .claiming then c.claimsLost + 1 else c.claimsLost
                unclaimed :=
                  if s.sequencer.verdict = some .wellFormed ∧ (∃ b, s.sequencer.bidding = some b ∧ b.active = true)
                  then c.unclaimed + 1
                  else c.unclaimed } } }
    exec (.badBlock cause) s =
        .next
          (closeByOther
            { s with
              port :=
                { s.port with
                  receiveBuffer := none
                  idleWait := match cause with | .crc => 2 | .stuffing => 8 }
              status := { s.status with live.station := { c with badBlocks := satInc c.badBlocks } } }) ∧
      exec (.replyObserved (.heard blk)) s =
        .next (closeByOther { s with port := { s.port with receiveBuffer := none, idleWait := 2 } }) ∧
      (∀ x, s.port.onLine = some x → x.kind = .reply →
        exec (.replyObserved .own) s =
          .next { s with port := { s.port with onLine := none, receiveBuffer := none, idleWait := 2 } }) ∧
      (s.port.slotOpen = true → s.port.onLine = none → s.port.receiveBuffer = none → s.port.dominant = false →
        exec .claimSlotTimeout s = .next closed) ∧
      (s.port.slotOpen = true → ownOnLine s.port .claim = false → closeByOther s = closed) ∧
      (s.port.slotOpen = false ∨ ownOnLine s.port .claim = true → closeByOther s = s)

/-! ### OFFER and CLAIM -/

/-- R3, R12, R13, R37 to R41: an OFFER from the bridge is counted, latched and judged in a claim slot of its own. A
malformed one is counted so. A well-formed one at an ACTIVE station with an eligible pair places a CLAIM of the
candidate's bid and pair, NS and L; with none, and at a station that is not ACTIVE, where it is latched all the same and
no bid is made, the station watches. One that comes in an open claim slot first closes that slot with no claim. The
model's readings: a body too short for the length field and the marks is malformed (log 19); one from a station's address
is counted as seen and as malformed, and leaves the latch, the claim slot and the phase as they are; one from address 6 is
discarded, and has run in an open claim slot, which it closes (both log 7). -/
def Obligations.OfferIsLatchedAndJudged : Prop :=
  (∀ (s : State) (blk : BusBlock), blk.sender = bridgeAddress → s.port.slotOpen = false →
      let o := offerOfBody blk.body
      let c := s.status.live.station
      (offerVerdict o = .malformed ↔
          (blk.body.length < 3 ∨ bodyWord blk.body 0 < 16 ∨ 256 < bodyWord blk.body 0 ∨
            blk.body.length ≠ 3 + bodyWord blk.body 0)) ∧
        (offerVerdict o = .malformed →
          exec (.offer blk) s =
            .next
              { s with
                port :=
                  { s.port with receiveBuffer := none, idleWait := 2, latch := some o, slotOpen := true }
                sequencer := ⟨s.sequencer.ns, .watching, some .malformed, none⟩
                status :=
                  { s.status with
                    live.station :=
                      { c with offersSeen := c.offersSeen + 1, malformed := satInc c.malformed } } }) ∧
        (offerVerdict o = .wellFormed → s.group.mode ≠ .active →
          ∃ t b, exec (.offer blk) s = .next t ∧ t.sequencer = ⟨s.sequencer.ns, .watching, some .wellFormed, some b⟩ ∧
            b = ⟨false, .all false, .all none, none⟩ ∧ t.port.latch = some o ∧ t.port.slotOpen = true ∧
            t.port.claim = s.port.claim ∧
            t.status.live.station = { c with offersSeen := c.offersSeen + 1 } ∧ t.lines = s.lines) ∧
        (offerVerdict o = .wellFormed → s.group.mode = .active → ∀ (k : StationNo) (ns : Seq),
          s.group.number = some k → s.sequencer.ns = some ns →
          ∃ t b, exec (.offer blk) s = .next t ∧ b = biddingFor (bodyWord blk.body 0) s ∧
            t.sequencer.bidding = some b ∧ t.sequencer.verdict = some .wellFormed ∧ t.sequencer.ns = some ns ∧
            t.port.latch = some o ∧ t.port.slotOpen = true ∧
            t.status.live.station = { c with offersSeen := c.offersSeen + 1 } ∧ t.lines = s.lines ∧
            t.group = s.group ∧ t.release = s.release ∧ t.holdQueue = s.holdQueue ∧
            (b.candidate = none → t.sequencer.phase = .watching ∧ t.port.claim = s.port.claim) ∧
            (∀ d, b.candidate = some d → t.sequencer.phase = .claiming ∧
              t.port.claim =
                some ⟨⟨BitVec.ofNat 20 d.bid, stationAddress k, pairBits d.pair,
                  byte2 ns.toNat ++ byte2 (bodyWord blk.body 0)⟩, 0⟩))) ∧
    (∀ (s : State) (blk : BusBlock), blk.sender = bridgeAddress → s.port.slotOpen = true →
      exec (.offer blk) s = exec (.offer blk) (closeNoClaim s)) ∧
    (∀ (s : State) (blk : BusBlock), blk.sender.toNat = 6 →
      exec (.offer blk) s = .next (closeByOther (blockEnded s))) ∧
    ∀ (s : State) (blk : BusBlock), (stationOfAddress blk.sender).isSome = true →
      let c := s.status.live.station
      exec (.offer blk) s =
        .next
          { s with
            port := { s.port with receiveBuffer := none, idleWait := 2 }
            status :=
              { s.status with
                live.station := { c with offersSeen := c.offersSeen + 1, malformed := satInc c.malformed } } }

/-- R42, R43, R45, R50, R65, R67: the station's own CLAIM, completed in its slot, moves NS to S + 1, counts a claim won,
and appends the latched fragment to the queue of the pair it named; a pair that has departed leaves it claimed-lost. It
does so in CONFLICT too. The model's reading: an own block that is observed is the one that was on the line (log 5). -/
def Obligations.WonClaimAppendsTheFragment : Prop :=
  ∀ (s : State) (x : OnLine) (o : LatchedOffer) (h : OfferHeader),
    s.group.mode = .active ∨ s.group.mode = .conflict → s.port.onLine = some x → x.kind = .claim → x.block.body.length = 4 →
    (stationOfAddress x.block.sender).isSome = true → s.port.slotOpen = true → s.port.latch = some o →
    o.header = some h →
    let q := bodySeq x.block.body 0
    let p := pairOfBits x.block.pair
    let c := s.status.live.station
    ∃ t, exec (.claim .own) s = .next t ∧ t.sequencer = ⟨some (q + 1), .idle, none, none⟩ ∧
      t.port =
        { s.port with
          onLine := none, receiveBuffer := none, idleWait := 2, slotOpen := false, claim := none, latch := none } ∧
      (inService (line s p) = true →
        line t p =
            { line s p with
              queue := (line s p).queue ++ [⟨q, h.length, h.startMark, h.endMark, o.payload⟩] } ∧
          backlog (line t p) = backlog (line s p) + h.length + 10 ∧
          t.status.live.station.claimedLost = c.claimedLost) ∧
      (inService (line s p) = false →
        line t p = line s p ∧ t.status.live.station.claimedLost = satInc c.claimedLost) ∧
      (∀ r, r ≠ p → line t r = line s r) ∧ t.status.live.station.claimsWon = c.claimsWon + 1 ∧
      t.status.live.station.nsAdoptions =
        (if s.sequencer.ns = some q then c.nsAdoptions else satInc c.nsAdoptions) ∧
      t.group = s.group ∧ t.release = s.release ∧ t.holdQueue = s.holdQueue

/-- R42 to R44, R46, R22: an admitted CLAIM of another station ends its block and, in every mode, closes an open slot: the
CLAIM slot, the latch, the verdict and the record are empty, the phase is IDLE, and a station that was CLAIMING has lost a
claim. In ACTIVE it moves NS to S + 1 and counts an adoption when NS held another value; in LISTENING it moves the join
NS, if the join values are present. It does nothing else. One that is not admitted moves nothing, and closes an open slot
with no claim. The model's readings: the join NS moves by the tests of sender and form that hold in ACTIVE (log 27); a
CLAIM from address 6 closes the slot too (log 7). -/
def Obligations.ClaimOfAnotherStationMovesNs : Prop :=
  ∀ (s : State) (blk : BusBlock), ownOnLine s.port .claim = false →
    let q := bodySeq blk.body 0
    let c := s.status.live.station
    let ended : State := { s with port := { s.port with receiveBuffer := none, idleWait := 2 } }
    let lost : BitVec 32 := if s.sequencer.phase = .claiming then c.claimsLost + 1 else c.claimsLost
    let passed : State :=
      if s.port.slotOpen then
        { ended with
          port := { ended.port with slotOpen := false, claim := none, latch := none }
          sequencer := ⟨s.sequencer.ns, .idle, none, none⟩
          status := { s.status with live.station := { c with claimsLost := lost } } }
      else ended
    (claimAdmitted blk = true ↔ (stationOfAddress blk.sender).isSome = true ∧ blk.body.length = 4) ∧
      (claimAdmitted blk = true → s.group.mode = .active →
        exec (.claim (.heard blk)) s =
          .next
            { passed with
              sequencer := { passed.sequencer with ns := some (q + 1) }
              status :=
                { passed.status with
                  live.station :=
                    { passed.status.live.station with
                      nsAdoptions := if s.sequencer.ns = some q then c.nsAdoptions else satInc c.nsAdoptions } } }) ∧
      (claimAdmitted blk = true → s.group.mode = .listening → ∀ v, s.group.join.values = some v →
        exec (.claim (.heard blk)) s = .next { passed with group.join.values := some ⟨q + 1, v.e⟩ }) ∧
      (claimAdmitted blk = true → s.group.mode ≠ .active →
        s.group.mode ≠ .listening ∨ s.group.join.values = none → exec (.claim (.heard blk)) s = .next passed) ∧
      (claimAdmitted blk = false → exec (.claim (.heard blk)) s = .next (closeByOther (blockEnded s)))

/-! ### RELEASE, SKIP, REBASE and HOLD -/

/-- R146, R135, R149, R144, R22: a RELEASE of a station, of the length its length field calls for, makes E S + 1 at an
ACTIVE station and BROKEN false at an end mark and the block's broken flag otherwise, counting an adoption when E held
another value, and acts as a move of E; the station's own is counted as sent and its entry removed. In LISTENING it moves
the join E. In any other mode, in LISTENING with the join values absent, and where it is not admitted it does nothing but
end its block and close an open claim slot. The model's readings: an own block that is observed is the one that was on the
line (log 5); the join E moves by the tests of sender and form that hold in ACTIVE (log 27); a block that the move of E
withdraws while it is on the line is not retried (log 10); a RELEASE from address 6 closes the slot too (log 7). -/
def Obligations.ReleaseMovesE : Prop :=
  ∀ (s : State) (blk : BusBlock) (e : Seq),
    let q := valueSeq blk.value
    let c := s.status.live.station
    let broken := !releaseEndMark blk && releaseBroken blk
    let u := closeByOther (blockEnded s)
    let cu := u.status.live.station
    let adopted (s : State) (c : StationCounters) :=
      { s with
        release := { s.release with e := some (q + 1), broken := broken }
        status := { s.status with live.station := c } }
    (releaseAdmitted blk = true ↔
        (stationOfAddress blk.sender).isSome = true ∧ 3 ≤ blk.body.length ∧
          blk.body.length = 3 + bodyWord blk.body 0) ∧
      (releaseAdmitted blk = true → s.group.mode = .active → s.release.e = some e →
        exec (.release (.heard blk)) s =
          .next (moveE (adopted u { cu with eAdoptions := if e = q then cu.eAdoptions else satInc cu.eAdoptions }))) ∧
      (∀ x, releaseAdmitted blk = true → s.group.mode = .active → s.release.e = some e →
        s.port.onLine = some x → x.kind = .release → x.block = blk →
        exec (.release .own) s =
          .next
            (moveE
              (adopted
                { s with
                  port := { s.port with onLine := none, receiveBuffer := none, idleWait := 2 }
                  holdQueue.entries := s.holdQueue.entries.filter (fun h => h.seq != q) }
                { c with
                  releasesSent := c.releasesSent + 1
                  eAdoptions := if e = q then c.eAdoptions else satInc c.eAdoptions }))) ∧
      (∀ v, releaseAdmitted blk = true → s.group.mode = .listening → s.group.join.values = some v →
        exec (.release (.heard blk)) s = .next { u with group.join.values := some ⟨v.ns, q + 1⟩ }) ∧
      (s.group.mode ≠ .active → s.group.mode ≠ .listening ∨ s.group.join.values = none →
        exec (.release (.heard blk)) s = .next u ∧
          ∀ x, s.port.onLine = some x → x.kind = .release →
            exec (.release .own) s =
              .next { s with port := { s.port with onLine := none, receiveBuffer := none, idleWait := 2 } }) ∧
      (releaseAdmitted blk = false → exec (.release (.heard blk)) s = .next u)

/-- R147, R148, R149, R144, R22: a SKIP or a REBASE of a station makes E S + 1 and BROKEN true at an ACTIVE station and
acts as a move of E. A SKIP counts an adoption when E held another value; a REBASE does not, and returns the run-away
counter to 0. Each is counted as sent or as observed. In LISTENING each moves the join E. In any other mode, in LISTENING
with the join values absent, and from another address it does nothing but end its block and close an open claim slot. The
model's readings: an own block that is observed is the one that was on the line (log 5); the join E moves by the tests of
sender and form that hold in ACTIVE (log 27); a block that the move of E withdraws while it is on the line is not retried
(log 10); a SKIP or a REBASE from address 6 closes the slot too (log 7). -/
def Obligations.SkipAndRebaseMoveE : Prop :=
  ∀ (s : State) (blk : BusBlock) (e : Seq),
    let q := valueSeq blk.value
    let c := s.status.live.station
    let u := closeByOther (blockEnded s)
    let cu := u.status.live.station
    let own := { s with port := { s.port with onLine := none, receiveBuffer := none, idleWait := 2 } }
    let passed (s : State) (c : StationCounters) :=
      { s with
        release := { s.release with e := some (q + 1), broken := true }
        status := { s.status with live.station := c } }
    let adoptions (c : StationCounters) := if e = q then c.eAdoptions else satInc c.eAdoptions
    ((stationOfAddress blk.sender).isSome = true → s.group.mode = .active → s.release.e = some e →
        exec (.skip (.heard blk)) s =
            .next (moveE (passed u { cu with skipsObserved := satInc cu.skipsObserved, eAdoptions := adoptions cu })) ∧
          exec (.rebase (.heard blk)) s =
            .next
              (moveE
                (passed { u with holdQueue.runaway := 0 }
                  { cu with rebasesObserved := satInc cu.rebasesObserved })) ∧
          (∀ x, s.port.onLine = some x → x.block = blk →
            (x.kind = .skip →
                exec (.skip .own) s =
                  .next (moveE (passed own { c with skipsSent := satInc c.skipsSent, eAdoptions := adoptions c }))) ∧
              (x.kind = .rebase →
                exec (.rebase .own) s =
                  .next
                    (moveE
                      (passed { own with holdQueue.runaway := 0 }
                        { c with rebasesSent := satInc c.rebasesSent }))))) ∧
      (∀ v, (stationOfAddress blk.sender).isSome = true → s.group.mode = .listening →
        s.group.join.values = some v →
        exec (.skip (.heard blk)) s = .next { u with group.join.values := some ⟨v.ns, q + 1⟩ } ∧
          exec (.rebase (.heard blk)) s = .next { u with group.join.values := some ⟨v.ns, q + 1⟩ }) ∧
      (s.group.mode ≠ .active → s.group.mode ≠ .listening ∨ s.group.join.values = none →
        exec (.skip (.heard blk)) s = .next u ∧ exec (.rebase (.heard blk)) s = .next u ∧
          ∀ x, s.port.onLine = some x →
            (x.kind = .skip → exec (.skip .own) s = .next own) ∧
              (x.kind = .rebase → exec (.rebase .own) s = .next own)) ∧
      ((stationOfAddress blk.sender).isSome = false →
        exec (.skip (.heard blk)) s = .next u ∧ exec (.rebase (.heard blk)) s = .next u)

/-- R144, R152, R159 to R161, R163: HOLD(on) from the bridge turns HOLD on at an ACTIVE station, withdraws the pending
RELEASE and SKIP, freezes the skip timer and starts the hold-limit timer. HOLD(off), and the expiry of the hold-limit timer,
which counts a hold overrun, turn it off: a RELEASE of a head at E is placed, a FROZEN skip timer runs on from its remaining
time, one FROZEN at 0 is EXPIRED with its SKIP(E) placed, and the evidence skip is tested. In LISTENING HOLD and its timer
change alike, and nothing more. With HOLD already off HOLD(off) does nothing; a HOLD from any other address, one whose body
names neither state, and one in any other mode do nothing; and an expiry taken while the hold-limit timer has time left, as
after a HOLD in the same moment, counts no overrun. The model's reading (log 7): a HOLD that has no effect closes an open
claim slot all the same, one from address 6 too. -/
def Obligations.HoldTurnsOnAndOff : Prop :=
  (∀ (s : State) (blk : BusBlock) (n : Nat) (k : StationNo) (e : Seq),
    s.group.mode = .active → s.group.number = some k → s.release.e = some e →
    let c := s.status.live.station
    let u := closeByOther (blockEnded s)
    let off (v : State) : State := tryRelease { v with release := { v.release with hold := false, holdTimer := .stopped } }
    let resumed (v : State) : State :=
      match s.release.skipTimer with
      | .frozen 0 =>
        placeBlock .skip ⟨seqValue e, stationAddress k, 0, []⟩ { v with release.skipTimer := .expired }
      | .frozen m => { v with release.skipTimer := .running m }
      | _ => v
    (blk.body.head? = some 1 → blk.sender = bridgeAddress → s.release.hold = false →
        exec (.holdOn blk) s =
          .next
            { withdrawBlock .skip (withdrawBlock .release u) with
              release :=
                { s.release with
                  hold := true
                  holdTimer := .running ((config s).holdLimit * 1000)
                  skipTimer :=
                    match s.release.skipTimer with
                    | .running m => .frozen m
                    | .expired => .frozen 0
                    | t => t } }) ∧
      (blk.body.head? = some 1 → blk.sender = bridgeAddress → s.release.hold = true →
        exec (.holdOn blk) s =
          .next { u with release := { s.release with holdTimer := .running ((config s).holdLimit * 1000) } }) ∧
      (blk.body.head? = some 0 → blk.sender = bridgeAddress → s.release.hold = true →
        exec (.holdOff blk) s = .next (evidenceSkip (resumed (off u)))) ∧
      (blk.body.head? = some 0 → blk.sender = bridgeAddress → s.release.hold = false →
        exec (.holdOff blk) s = .next u) ∧
      (s.release.holdTimer = .running (n + 1) → exec .holdLimitExpiry s = .next s) ∧
      (s.release.hold = true → s.release.holdTimer = .running 0 →
        exec .holdLimitExpiry s =
          .next
            (evidenceSkip
              (resumed (off { s with status.live.station := { c with holdOverruns := satInc c.holdOverruns } }))))) ∧
  ∀ (s : State) (blk : BusBlock),
    let c := s.status.live.station
    let u := closeByOther (blockEnded s)
    let off (v : State) : State := { v with release := { s.release with hold := false, holdTimer := .stopped } }
    (s.group.mode = .listening → blk.sender = bridgeAddress →
        (blk.body.head? = some 1 →
          exec (.holdOn blk) s =
            .next
              { u with
                release :=
                  { s.release with hold := true, holdTimer := .running ((config s).holdLimit * 1000) } }) ∧
          (blk.body.head? = some 0 → s.release.hold = true → exec (.holdOff blk) s = .next (off u)) ∧
          (blk.body.head? = some 0 → s.release.hold = false → exec (.holdOff blk) s = .next u)) ∧
      (s.group.mode = .listening → s.release.hold = true → s.release.holdTimer = .running 0 →
        exec .holdLimitExpiry s =
          .next (off { s with status.live.station := { c with holdOverruns := satInc c.holdOverruns } })) ∧
      (blk.sender ≠ bridgeAddress ∨ (blk.body.head? ≠ some 1 ∧ blk.body.head? ≠ some 0) ∨
          (s.group.mode ≠ .listening ∧ s.group.mode ≠ .active) →
        exec (.holdOn blk) s = .next u ∧ exec (.holdOff blk) s = .next u)

/-! ### QUERY -/

/-- R13, R31, R167 to R169, R171, R172, R174 to R176, R181: an ACTIVE station takes a QUERY in its own number and places a
REPLY of the item code, the argument, the result and the item's contents; an argument out of range, and a code that names
no item, is answered UNKNOWN ITEM. The contents are the fields of each item's table in its order and in the widths of
R181. A QUERY in another number, in 6 or 7, at a station that is not ACTIVE, from a station, or of fewer than three bytes
is not taken. Nothing but the REPLY slot and the block's end changes, and an open claim slot closes. The model's choice
and readings: the destination byte is compared whole (log 18), a body of fewer than three bytes is no QUERY that is taken
(log 19), STATION gives the peers in ascending order of their numbers (log 23), PAIR gives k in one byte and B in two (log
27), the value bytes of an OPEN or UNKNOWN own horizon in STATION are 0 as in a MARK (log 39), and a QUERY that is not
taken closes an open claim slot all the same, one from address 6 too (log 7). -/
def Obligations.QueryIsAnsweredInTheReplySlot : Prop :=
  let be (width n : Nat) : List Byte := (List.range width).map (fun i => BitVec.ofNat 8 (n / 256 ^ (width - 1 - i)))
  let flag (b : Bool) : List Byte := [if b then 1 else 0]
  let orNone (x : Option Nat) : List Byte := match x with | some n => be 2 n | none => [0xFF, 0xFF]
  let given (width : Nat) (x : Option Nat) : List Byte :=
    match x with
    | some n => 1 :: be width n
    | none => 0 :: List.replicate width 0xFF
    (∀ (s : State) (k : StationNo) (code arg : Byte) (rest : List Byte) (v : BitVec 20) (i : BitVec 2),
      s.group.mode = .active → s.group.number = some k →
      let blk : BusBlock := ⟨v, bridgeAddress, i, BitVec.ofNat 8 (stationIndex k) :: code :: arg :: rest⟩
      let u := closeByOther (blockEnded s)
      let replied (contents : List Byte) : State :=
        { u with port := { u.port with reply := some ⟨⟨0, stationAddress k, 0, contents⟩, 0⟩ } }
      exec (.identity blk) s = .next (replied (0x01 :: arg :: 0x00 :: identityContents u)) ∧
        exec (.station blk) s = .next (replied (0x02 :: arg :: 0x00 :: stationContents u)) ∧
        (∀ p, arg = BitVec.ofNat 8 (pairIndex p) →
          exec (.pair blk) s = .next (replied (0x03 :: arg :: 0x00 :: pairContents (line u p)))) ∧
        (4 ≤ arg.toNat → exec (.pair blk) s = .next (replied [0x03, arg, 0x01])) ∧
        (arg.toNat < 8 →
          exec (.counters blk) s = .next (replied (0x04 :: arg :: 0x00 :: countersContents arg.toNat u))) ∧
        (8 ≤ arg.toNat → exec (.counters blk) s = .next (replied [0x04, arg, 0x01])) ∧
        (arg.toNat < 16 →
          exec (.events blk) s = .next (replied (0x06 :: arg :: 0x00 :: eventsContents arg.toNat u))) ∧
        (16 ≤ arg.toNat → exec (.events blk) s = .next (replied [0x06, arg, 0x01])) ∧
        exec (.unknownItem blk) s = .next (replied [code, arg, 0x01])) ∧
    (∀ (s : State) (k : StationNo), s.group.number = some k →
      let peers := allStations.filter (fun j => j != k)
      let serving := allPairs.filter (fun p => (line s p).state == .service)
      identityContents s =
          be 2 412 ++ be 1 1 ++ be 1 (stationIndex k) ++ be 1 (match (config s).role with | .farm => 1 | .cabinet => 2) ++
            flag s.group.defaultsInUse ∧
        stationContents s =
          be 1
              (match s.group.mode with
              | .waiting => 0 | .reading => 1 | .listening => 2 | .active => 3 | .spare => 4 | .conflict => 5) ++
            orNone (s.sequencer.ns.map (·.toNat)) ++ orNone (s.release.e.map (·.toNat)) ++ flag s.release.broken ++
            flag s.release.hold ++ be 1 (poolUsed s) ++ be 1 s.holdQueue.entries.length ++
            (match s.holdQueue.entries with
              | [] => orNone none ++ be 1 255 ++ given 4 none
              | h :: _ => be 2 h.seq.toNat ++ be 1 (pairIndex h.pair) ++ given 4 (some (s.timeBase - h.stamp).toNat)) ++
            (match ownHorizon s with
              | .openEnded => be 1 1 ++ be 2 0
              | .bound x => be 1 2 ++ be 2 x.toNat
              | .unknown => be 1 3 ++ be 2 0) ++
            (peers.map (fun j =>
              let t := stationGet s.group.table j
              flag t.present ++ be 1 t.heard ++ be 1 t.missed ++ be 2 t.capacity)).flatten ++
            be 2
              ((serving.map (fun p => (line s p).sendRate)).sum +
                ((peers.filter (fun j => (stationGet s.group.table j).present)).map
                  (fun j => (stationGet s.group.table j).capacity)).sum)) ∧
    (∀ u : LineUnit,
      pairContents u =
        be 1
            (match u.state with
            | .off => 0 | .quiet => 1 | .detect => 2 | .train => 3 | .qualify => 4 | .service => 5 | .windDown => 6) ++
          flag u.los ++ be 2 u.sendRate ++ orNone u.svc.pendingTarget ++ be 2 u.recvRate ++ be 2 u.trainedSend ++
          be 2 u.trainedRecv ++ be 2 u.delay ++ be 3 u.farCeiling ++ be 1 u.k ++ be 1 u.queue.length ++
          be 2 (u.queue.map (fun f => f.length + 10)).sum ++ orNone (u.lastReceived.map (·.toNat)) ++ be 2 u.margin) ∧
    (∀ (s : State) (p : Pair),
      let head := given 1 (s.status.snapTag.map (·.toNat)) ++ given 4 (s.status.snapStamp.map (·.toNat))
      let c := s.status.snap.station
      let x := quadGet s.status.snap.pairs p
      let two (c : SatCount) : List Byte := be 2 c.toNat
      let four (c : WrapCount) : List Byte := be 4 c.toNat
      let five (c : ByteCount) : List Byte := be 5 c.toNat
      countersContents 0 s = head ++ two c.badBlocks ++ two c.sendAborts ++ two c.droppedBlocks ∧
        countersContents 1 s =
          head ++ four c.offersSeen ++ two c.malformed ++ four c.unclaimed ++ four c.claimsWon ++ four c.claimsLost ++
            two c.claimedLost ++ two c.nsAdoptions ∧
        countersContents 2 s =
          head ++ four c.accepted ++ two c.duplicates ++ two c.stale ++ two c.farAhead ++ two c.overflows ++
            two c.outOfState ∧
        countersContents 3 s =
          head ++ four c.releasesSent ++ two c.skipsSent ++ two c.skipsObserved ++ two c.rebasesSent ++
            two c.rebasesObserved ++ two c.eAdoptions ++ two c.holdOverruns ∧
        countersContents (4 + pairIndex p) s =
          head ++ four x.fragsSent ++ five x.bytesSent ++ four x.fragsReceived ++ five x.bytesReceived ++
            two x.badFrames ++ two x.lostFrames ++ four x.idleFrames ++ two x.erroredPeriods ++ two x.serviceEntries ++
            two x.downRates ++ two x.upRates ++ two x.windDownErrors ++ two x.windDownMargin ++ two x.windDownReRate ++
            two x.windDownFar ++ two x.losLosses ++ two x.leavesReceived ++ two x.trainingFailures ++
            two x.qualificationFailures ++ four x.discarded) ∧
    (∀ (s : State) (i : Nat),
      eventsContents i s =
        (match s.status.ring[i]? with
          | none => List.replicate 8 0xFF
          | some x =>
            be 1
                (match x.kind with
                | .serviceEntry => 0 | .leftService => 1 | .reRateDone => 2 | .losOn => 3 | .losOff => 4
                | .trainingFail => 5 | .qualificationFail => 6 | .peerPresent => 7 | .peerAbsent => 8) ++
              be 1 x.subject ++ be 2 x.value ++ be 4 x.stamp.toNat) ++
          be 1 s.status.ring.length ++ flag s.status.frozen ++ be 2 s.status.missed.toNat) ∧
    ∀ (s : State) (blk : BusBlock),
      let u := closeByOther (blockEnded s)
      (blk.sender ≠ bridgeAddress ∨ blk.body.length < 3 → exec (.snapshot blk) s = .next u) ∧
        (blk.sender ≠ bridgeAddress ∨ blk.body.length < 3 ∨ s.group.mode ≠ .active ∨
            (∀ k, s.group.number = some k → (blk.body.getD 0 0).toNat ≠ stationIndex k) →
          exec (.identity blk) s = .next u ∧ exec (.station blk) s = .next u ∧ exec (.pair blk) s = .next u ∧
            exec (.counters blk) s = .next u ∧ exec (.events blk) s = .next u ∧ exec (.ringFreeze blk) s = .next u ∧
            exec (.ringThaw blk) s = .next u ∧ exec (.unknownItem blk) s = .next u)

/-- R170, R172, R177, R186: a SNAPSHOT in the station's own number, or in 6, is taken in every mode: every live counter is
copied at once, the tag and the time base are stored, no REPLY is placed and the live counters run on. A destination that
is neither leaves the snapshot as it was. RING-FREEZE sets the freeze flag and RING-THAW clears it; each is answered with
the number of entries stored and the events-missed count, and the ring keeps its entries. The model's reading and choice:
the destination byte is compared whole, so that 7 and above name no station (log 18); the counts of a claim slot the
SNAPSHOT closes are in the copy (log 31). -/
def Obligations.SnapshotAndRingQueriesAct : Prop :=
  ∀ (s : State) (dest tag : Byte) (rest : List Byte) (v : BitVec 20) (i : BitVec 2),
    let u := closeByOther (blockEnded s)
    let blk (code : Byte) : BusBlock := ⟨v, bridgeAddress, i, dest :: code :: tag :: rest⟩
    let answered (k : StationNo) (code : Byte) (flag : Bool) : State :=
      { u with
        port :=
          { u.port with
            reply :=
              some
                ⟨⟨0, stationAddress k, 0,
                  [code, tag, 0x00, BitVec.ofNat 8 s.status.ring.length] ++ byte2 s.status.missed.toNat⟩, 0⟩ }
        status := { u.status with frozen := flag } }
    (dest = 6 ∨ (∃ k, s.group.number = some k ∧ dest.toNat = stationIndex k) →
        exec (.snapshot (blk 0x05)) s =
          .next
            { u with
              status :=
                { u.status with
                  snap := u.status.live
                  snapTag := some tag
                  snapStamp := some s.timeBase } }) ∧
      (dest ≠ 6 → (∀ k, s.group.number = some k → dest.toNat ≠ stationIndex k) →
        exec (.snapshot (blk 0x05)) s = .next u) ∧
      ∀ k, s.group.mode = .active → s.group.number = some k → dest.toNat = stationIndex k →
        exec (.ringFreeze (blk 0x07)) s = .next (answered k 0x07 true) ∧
          exec (.ringThaw (blk 0x08)) s = .next (answered k 0x08 false)

/-! ### The line units before service -/

/-- R84, R87, R88, R90, R74: a running hold-off's expiry enters DETECT with its first WAKE. There a good WAKE lights the
period; a lit period raises the lit count, the fourth unlit one in a row and a bad CRC end the run, and the third lit
period enters TRAIN, with nothing trained and the training timer started. The model's choices: the expiry of a timer that
has time left has no effect (log 2), a WAKE taken in the moment a period ends, before its end, lights that period (log
36), and the first monitor period begins at the entry to DETECT (log 32). -/
def Obligations.LitRunLeadsFromQuietToTrain : Prop :=
  ∀ (p : Pair) (s : State) (f : Frame) (n : Nat),
    let u := line s p
    (u.state = .quiet → u.holdOff = .running 0 →
      exec (.holdOffExpiry p) s =
        .next
          (setLine p
            { u with
              state := .detect
              holdOff := .stopped
              rxExpected := none
              lit := false
              litCount := 0
              unlitCount := 0
              monitor := .running 1000
              detect := .running (2 ^ (config s).detectExp * 128 * 1000)
              tx := if u.tx = none then some ⟨.wake (config s).role, 0, 1⟩ else u.tx
              txCount := if u.tx = none then 1 else 0 } s)) ∧
      (u.state = .quiet → u.holdOff = .held ∨ u.holdOff = .running (n + 1) → exec (.holdOffExpiry p) s = .next s) ∧
      (u.monitor = .running (n + 1) → exec (.monitorPeriodEnd p) s = .next s) ∧
      (u.state = .detect → frameSizeOk .wake f = true →
        exec (.wake p f) s = .next (setLine p { u with rxExpected := some (f.count + 1), lit := true } s)) ∧
      (u.state = .detect →
        exec (.frameBadCrc p) s = .next (setLine p { u with litCount := 0, unlitCount := 0 } s)) ∧
      (u.state = .detect → u.monitor = .running 0 → u.litCount < 3 →
        (u.lit = true → u.litCount < 2 →
          exec (.monitorPeriodEnd p) s =
            .next
              (setLine p
                { u with monitor := .running 1000, lit := false, litCount := u.litCount + 1, unlitCount := 0 } s)) ∧
          (u.lit = false → u.unlitCount < 3 →
            exec (.monitorPeriodEnd p) s =
              .next (setLine p { u with monitor := .running 1000, unlitCount := u.unlitCount + 1 } s)) ∧
          (u.lit = false → 3 ≤ u.unlitCount →
            exec (.monitorPeriodEnd p) s =
              .next (setLine p { u with monitor := .running 1000, litCount := 0, unlitCount := 0 } s)) ∧
          (u.lit = true → u.litCount = 2 →
            exec (.monitorPeriodEnd p) s =
              .next
                (setLine p
                  { u with
                    state := .train
                    monitor := .stopped
                    detect := .stopped
                    lit := false
                    litCount := 3
                    unlitCount := 0
                    farParams := none
                    train := .start
                    trainedSend := 0
                    trainedRecv := 0
                    delay := 0
                    farCeiling := 0
                    training := .running (2 ^ (config s).trainingExp * 128 * 1000) } s)))

/-- R88, R91, R92, R86: a good PARAMS lights the period in DETECT. In TRAIN the first is stored and checked: the own end
role fails for ROLE CLASH, an empty range of rates for RANGE CLASH, and otherwise the far ceiling and the range are kept.
With "yours held" set, or the evidence already come, the PARAMS phase ends: the cabinet end begins its search at lo, and
the farm end waits as receiver. A PROBE or a VERDICT of either form is evidence too: it ends the phase in the same way
once the far PARAMS are held, the farm end then taking the PROBE as a receiver does, and otherwise leaves only the
evidence. A later PARAMS of either flag does no more than that, and in a later phase it leaves at most the evidence. The
model's choices and readings: a role byte that is neither 01h nor 02h is not the own end role, so that such a PARAMS is
kept, and the far C is stored as it came, without a check of its range (log 14); a PARAMS in a later phase is evidence at
most and no more (log 27); one taken in the moment a monitor period of DETECT ends, before its end, lights that period
(log 36). -/
def Obligations.ParamsAreCheckedAndEndTheirPhase : Prop :=
  (∀ (p : Pair) (f : Frame) (s : State), frameSizeOk .params f = true →
    let u := line s p
    let c := config s
    let far := paramsOf f
    let lo := max c.minRate far.minRate
    let hi := min c.maxRate far.maxRate
    let held : LineUnit := { u with rxExpected := some (f.count + 1), farParams := some far }
    let kept : LineUnit := { held with farCeiling := far.ceiling, train := { u.train with lo := lo, hi := hi } }
    let waits (v : LineUnit) : LineUnit := { v with train := { v.train with phase := .receiving, evidence := true } }
    let searches (v : LineUnit) : LineUnit :=
      { v with
        train :=
          { v.train with
            phase := .sending
            evidence := true
            paramsFill := false
            search := some ⟨.rising, v.train.lo, none, none, 1⟩
            probeNext := some 0
            deadline := .stopped } }
    let ends (v : LineUnit) : State :=
      match c.role with
      | .farm => setLine p (waits v) s
      | .cabinet => setLine p (searches v) s
    (u.state = .detect →
        exec (.params p f) s = .next (setLine p { u with rxExpected := some (f.count + 1), lit := true } s)) ∧
      (u.state = .train → u.train.phase = .params → u.farParams = none →
        (far.role = roleByte c.role →
            exec (.params p f) s = .next (failTraining p .roleClash (setLine p held s))) ∧
          (far.role ≠ roleByte c.role → hi < lo →
            exec (.params p f) s = .next (failTraining p .rangeClash (setLine p held s))) ∧
          (far.role ≠ roleByte c.role → lo ≤ hi → frameYoursHeld f = true ∨ u.train.evidence = true →
            exec (.params p f) s = .next (ends kept)) ∧
          (far.role ≠ roleByte c.role → lo ≤ hi → frameYoursHeld f = false → u.train.evidence = false →
            exec (.params p f) s = .next (setLine p kept s))) ∧
      (u.state = .train → u.train.phase = .params → u.farParams.isSome = true → frameYoursHeld f = true →
        exec (.params p f) s = .next (ends { u with rxExpected := some (f.count + 1) })) ∧
      (u.state = .train → u.train.phase = .params → u.farParams.isSome = true → frameYoursHeld f = false →
        (u.train.evidence = true →
            exec (.params p f) s = .next (ends { u with rxExpected := some (f.count + 1) })) ∧
          (u.train.evidence = false →
            exec (.params p f) s = .next (setLine p { u with rxExpected := some (f.count + 1) } s))) ∧
      (u.state = .train → u.train.phase ≠ .params → u.farParams.isSome = true →
        exec (.params p f) s =
          .next
            (setLine p
              { u with
                rxExpected := some (f.count + 1)
                train := { u.train with evidence := u.train.evidence || frameYoursHeld f } } s))) ∧
  ∀ (p : Pair) (f : Frame) (s : State), (line s p).state = .train → (line s p).train.phase = .params →
    let u := line s p
    let probes : List (FrameKind × Instr) := [(.probe, .probe p f), (.probe, .closingProbe p f)]
    let verdicts : List (FrameKind × Instr) := [(.verdict, .verdict p f), (.verdict, .closingVerdict p f)]
    let shown (phase : TrainPhase) : LineUnit :=
      { u with rxExpected := some (f.count + 1), train := { u.train with evidence := true, phase := phase } }
    (u.farParams = none →
        ∀ x ∈ probes ++ verdicts, frameSizeOk x.1 f = true → exec x.2 s = .next (setLine p (shown .params) s)) ∧
      (u.farParams.isSome = true → (config s).role = .cabinet →
        ∀ x ∈ probes ++ verdicts, frameSizeOk x.1 f = true →
          exec x.2 s =
            .next
              (setLine p
                { shown .sending with
                  train :=
                    { (shown .sending).train with
                      paramsFill := false
                      search := some ⟨.rising, u.train.lo, none, none, 1⟩
                      probeNext := some 0
                      deadline := .stopped } } s)) ∧
      (u.farParams.isSome = true → (config s).role = .farm →
        (∀ x ∈ verdicts, frameSizeOk x.1 f = true → exec x.2 s = .next (setLine p (shown .receiving) s)) ∧
          ∀ x ∈ probes, frameSizeOk x.1 f = true →
            exec x.2 s = exec x.2 (setLine p { u with train := { u.train with phase := .receiving } } s))

/-- R93, R94, R96, R97: the sender of a direction. The VERDICT of its burst before the deadline, or the deadline, is the
burst's result: the search goes on to the next burst, ends with the trained send rate and a closing PROBE pending, or
fails for RATE FLOOR; another burst's VERDICT, one with no burst awaited and one in a later phase leave it as it is, and
so does an acknowledgement with no closing PROBE out. The wait for the acknowledgement starts as the closing PROBE has
gone out, and at its end the closing PROBE is pending again. The acknowledgement makes the cabinet end the receiver and
takes the farm end to the ECHO phase. The model's choices and readings: the expiry of a timer that has time left has no
effect (log 2); the end of a frame and the choice of the next one are two commands, so that the pair has no frame on it in
between (log 8); a VERDICT outside its phase is evidence and no more (log 27); whether a result byte that is neither 00h
nor 01h is clean is a free value (log 20); an acknowledgement taken in the moment its wait ends, before the repeat, ends
the wait (log 36). -/
def Obligations.SenderTakesEachBurstResult : Prop :=
  ∀ (p : Pair) (f : Frame) (s : State) (n r q : Nat) (i : BitVec 24) (sr sr' : Search),
    (line s p).state = .train →
    let u := line s p
    let c := config s
    let seen : LineUnit := { u with rxExpected := some (f.count + 1), train := { u.train with evidence := true } }
    let onward (v : LineUnit) : State :=
      setLine p { v with train := { v.train with search := some sr', probeNext := some 0, deadline := .stopped } } s
    let trained (v : LineUnit) : State :=
      setLine p
        { v with
          trainedSend := r
          train :=
            { v.train with phase := .closing, probeNext := none, deadline := .stopped, closingPending := true } } s
    (u.train.deadline = .running (n + 1) → exec (.verdictDeadline p) s = .next s) ∧
      (u.train.closingWait = .running (n + 1) → exec (.closingProbeRepeat p) s = .next s) ∧
      (u.train.phase = .sending → u.train.search = some sr → u.train.deadline = .running n →
        let result := searchStep u.train.lo u.train.hi
        (frameSizeOk .verdict f = true → (frameSeq f).toNat = sr.burst →
          (result (verdictClean f) sr = .next sr' → exec (.verdict p f) s = .next (onward seen)) ∧
            (result (verdictClean f) sr = .done r → exec (.verdict p f) s = .next (trained seen)) ∧
            (result (verdictClean f) sr = .floor →
              exec (.verdict p f) s = .next (failTraining p .rateFloor (setLine p seen s)))) ∧
          (frameSizeOk .verdict f = true → (frameSeq f).toNat ≠ sr.burst →
            exec (.verdict p f) s = .next (setLine p seen s)) ∧
          (n = 0 → result false sr = .next sr' → exec (.verdictDeadline p) s = .next (onward u)) ∧
          (n = 0 → result false sr = .done r → exec (.verdictDeadline p) s = .next (trained u)) ∧
          (n = 0 → result false sr = .floor → exec (.verdictDeadline p) s = .next (failTraining p .rateFloor s))) ∧
      (frameSizeOk .verdict f = true →
        (u.train.phase = .receiving ∨ u.train.phase = .closing ∨ u.train.phase = .echo ∨
            (u.train.phase = .sending ∧ u.train.deadline = .stopped) →
          exec (.verdict p f) s = .next (setLine p seen s)) ∧
          (u.train.phase = .receiving ∨ u.train.phase = .sending ∨ u.train.phase = .echo →
            exec (.closingVerdict p f) s = .next (setLine p seen s))) ∧
      (u.train.phase = .closing →
        (frameSizeOk .verdict f = true →
            exec (.closingVerdict p f) s =
              .next
                (setLine p
                  { seen with
                    train :=
                      { seen.train with
                        phase := match c.role with | .farm => .echo | .cabinet => .receiving
                        closingPending := false
                        closingWait := .stopped
                        echoAskPending := match c.role with | .farm => true | .cabinet => u.train.echoAskPending } }
                  s)) ∧
          (u.train.closingWait = .running 0 →
            exec (.closingProbeRepeat p) s =
              .next
                (setLine p
                  { u with train := { u.train with closingPending := true, closingWait := .stopped } } s)) ∧
          (u.tx = some ⟨.closingProbe r, i, q⟩ →
            exec (.closingProbeSent p) s =
              .next
                (setLine p
                  { u with tx := none, train := { u.train with closingWait := .running 100000 } } s)))

/-- R91, R95, R96: the receiver of a direction. A good PROBE of its burst raises the good count, one of a newer burst begins
a count, one of an older or a judged burst does not; each counted one keeps the window open until 10 ms after the burst's
expected end, and index 63 closes it. The window's close places a VERDICT of the burst and its good count, clean from 62. A
closing PROBE is recorded as the trained receive rate and answered; at the farm end the first begins its own search, at the
cabinet end the ECHO phase. At the cabinet end a PROBE acknowledges its own closing PROBE, and is then taken as the
receiver's. Every repeat of the closing PROBE is answered in the same way in the later phases, and a burst's PROBE does no
more there. The model's choices, and not R95's: a PROBE of a newer burst begins a count and one of an older burst is
ignored, and a closing PROBE stops an open window (log 22); the window's length is rounded up to a whole microsecond (log
3); a VERDICT placed replaces one still pending (log 33); the close of a window that has time left has no effect (log 2); a
PROBE taken in the moment of the close, before it, still counts (log 36); a PROBE outside its phase is evidence and no more
(log 27). -/
def Obligations.ReceiverJudgesEachBurst : Prop :=
  (∀ (p : Pair) (f : Frame) (s : State) (n : Nat) (j : BurstJudge),
    (line s p).state = .train → (line s p).train.phase = .receiving → frameSizeOk .probe f = true →
    let u := line s p
    let c := config s
    let b := bodyByte f.body 0
    let i := (frameSeq f).toNat
    let rate := rateField (bodyWord f.body 1)
    let seen : LineUnit := { u with rxExpected := some (f.count + 1), train := { u.train with evidence := true } }
    let open' (x : BurstJudge) : State :=
      setLine p
        { seen with
          train :=
            { seen.train with
              paramsFill := false
              judge := some x
              window := .running (((63 - i) * 16000 + rate - 1) / rate + 10000) } } s
    let closed (v : LineUnit) (x : BurstJudge) : State :=
      setLine p
        { v with
          train :=
            { v.train with
              judge := some { x with judged := true }
              window := .stopped
              verdict := some (.burst x.burst x.good (decide (62 ≤ x.good))) } } s
    let quiet : LineUnit := { seen with train := { seen.train with paramsFill := false } }
    let counted (x : BurstJudge) : Prop :=
      (i < 63 → exec (.probe p f) s = .next (open' x)) ∧ (i = 63 → exec (.probe p f) s = .next (closed quiet x))
    (u.train.judge = none → counted ⟨b, 1, false⟩) ∧
      (u.train.judge = some j → j.burst < b → counted ⟨b, 1, false⟩) ∧
      (u.train.judge = some j → j.burst = b → j.judged = false → j.good < 64 → counted { j with good := j.good + 1 }) ∧
      (u.train.judge = some j → b < j.burst ∨ (j.burst = b ∧ j.judged = true) →
        exec (.probe p f) s = .next (setLine p quiet s)) ∧
      (u.train.window = .running (n + 1) → exec (.burstWindowClose p) s = .next s) ∧
      (u.train.judge = some j → u.train.window = .running 0 →
        exec (.burstWindowClose p) s = .next (closed u j)) ∧
      (c.role = .farm →
        exec (.closingProbe p f) s =
          .next
            (setLine p
              { seen with
                trainedRecv := rate
                train :=
                  { seen.train with
                    phase := .sending
                    paramsFill := false
                    search := some ⟨.rising, u.train.lo, none, none, 1⟩
                    probeNext := some 0
                    deadline := .stopped
                    verdict := some (.closing rate)
                    window := .stopped } } s)) ∧
      (c.role = .cabinet →
        exec (.closingProbe p f) s =
          .next
            (setLine p
              { seen with
                trainedRecv := rate
                train :=
                  { seen.train with
                    phase := .echo
                    closingPending := false
                    closingWait := .stopped
                    echoAskPending := true
                    verdict := some (.closing rate)
                    window := .stopped } } s))) ∧
  ∀ (p : Pair) (f : Frame) (s : State), (line s p).state = .train → frameSizeOk .probe f = true →
    let u := line s p
    let phase := u.train.phase
    let rate := rateField (bodyWord f.body 1)
    let seen : LineUnit := { u with rxExpected := some (f.count + 1), train := { u.train with evidence := true } }
    let acked : LineUnit :=
      { u with
        train := { u.train with phase := .receiving, closingPending := false, closingWait := .stopped } }
    ((config s).role = .cabinet → phase = .closing →
        exec (.probe p f) s = exec (.probe p f) (setLine p acked s) ∧
          exec (.closingProbe p f) s = exec (.closingProbe p f) (setLine p acked s)) ∧
      ((config s).role = .farm ∧ (phase = .sending ∨ phase = .closing) ∨ phase = .echo →
        exec (.probe p f) s = .next (setLine p seen s) ∧
          exec (.closingProbe p f) s =
            .next
              (setLine p
                { seen with
                  trainedRecv := rate
                  train := { seen.train with verdict := some (.closing rate), window := .stopped } } s)) ∧
      ((config s).role = .cabinet → phase = .sending →
        exec (.probe p f) s = .next (setLine p seen s) ∧ exec (.closingProbe p f) s = .next (setLine p seen s))

/-- R96, R98, R99, R100: the delay measurement. An ECHO-ASK that has gone out notes t1 and starts the echo deadline; a
received one notes t2 and places an ECHO, and acknowledges the farm end's closing PROBE. A good ECHO before the deadline
gives D: the round trip less the turnaround and the ECHO's 3000 / R µs at the trained receive rate R, halved and rounded up,
0 below 0 and at most 16,383. QUALIFY begins, its record cleared, once D is measured and the own ECHO has gone out. An ECHO
after the first, or with no ECHO-ASK of its own gone out, is ignored. The model's choices and readings: an ECHO taken in the
moment of the deadline, before its expiry, is in time (log 36); an ECHO-ASK in the PARAMS phase is a good frame and no more
(log 27); the end of a frame and the choice of the next one are two commands, so that the pair has no frame on it in between
(log 8). -/
def Obligations.EchoMeasuresTheDelay : Prop :=
  ∀ (p : Pair) (f : Frame) (s : State) (n r : Nat) (i : BitVec 24) (x : BitVec 16) (t1 : Stamp),
    (line s p).state = .train →
    let u := line s p
    let t := u.train
    let rate := u.trainedRecv
    let spent := rate * (s.timeBase - t1).toNat
    let taken := rate * bodyWord f.body 0 + 3000
    let delay := min 16383 ((spent - taken + 2 * rate - 1) / (2 * rate))
    let qualifies (v : LineUnit) : LineUnit :=
      { v with
        state := .qualify
        training := .stopped
        train := .start
        qualify := ⟨0, 0, false, false, 0⟩
        qualification := .running 4000000 }
    let sent : State := setLine p { u with tx := none, train := { t with echoSent := true } } s
    (u.tx = some ⟨.echoAsk, i, r⟩ →
        exec (.echoAskSent p) s =
          .next
            (setLine p
              { u with
                tx := none
                train := { t with t1 := some s.timeBase, echoDeadline := .running 100000 } } s)) ∧
      (u.tx = some ⟨.echo x, i, r⟩ →
        (t.measured = false → exec (.echoSent p) s = .next sent) ∧
          (t.measured = true →
            exec (.echoSent p) s = .next (setLine p (qualifies { u with tx := none }) s))) ∧
      (frameSizeOk .echoAsk f = true → t.phase ≠ .params →
        ((config s).role = .cabinet ∨ t.phase ≠ .closing →
            exec (.echoAsk p f) s =
              .next
                (setLine p
                  { u with rxExpected := some (f.count + 1), train := { t with echoReply := some s.timeBase } } s)) ∧
          ((config s).role = .farm → t.phase = .closing →
            exec (.echoAsk p f) s =
              .next
                (setLine p
                  { u with
                    rxExpected := some (f.count + 1)
                    train :=
                      { t with
                        phase := .echo
                        closingPending := false
                        closingWait := .stopped
                        echoAskPending := true
                        echoReply := some s.timeBase } } s))) ∧
      (frameSizeOk .echoAsk f = true → t.phase = .params →
        exec (.echoAsk p f) s = .next (setLine p { u with rxExpected := some (f.count + 1) } s)) ∧
      (frameSizeOk .echo f = true → t.measured = true ∨ t.t1 = none ∨ t.echoDeadline = .stopped →
        exec (.echo p f) s = .next (setLine p { u with rxExpected := some (f.count + 1) } s)) ∧
      (frameSizeOk .echo f = true → t.t1 = some t1 → t.echoDeadline = .running n → t.measured = false →
        (t.echoSent = false →
            exec (.echo p f) s =
              .next
                (setLine p
                  { u with
                    rxExpected := some (f.count + 1)
                    delay := delay
                    train := { t with measured := true, echoDeadline := .stopped } } s)) ∧
          (t.echoSent = true →
            exec (.echo p f) s =
              .next (setLine p (qualifies { u with rxExpected := some (f.count + 1), delay := delay }) s)))

/-- R100 to R102, R106, R111, R183: in QUALIFY before the own pass a good TEST frame whose body is the test sequence at
its index counts as good and any other as bad, on top of the frames its count shows as lost. The fifth bad one fails, also
where lost frames bring it, and the frame that showed them is then not acted on; after the own pass a TEST counts no more;
the 512th good one is the own pass, with QUALIFIED placed. With the far QUALIFIED, in either order, the pair enters
SERVICE at its trained rates, its clock, monitor and re-rate check started and LOS off, counted and handed over as an
event. The model's choices: the level of the margin input is an operand of the command (log 15); a frame taken in the
moment the qualification limit runs out, before its expiry, is acted on (log 36). -/
def Obligations.QualifyPassesIntoService : Prop :=
  ∀ (p : Pair) (f : Frame) (margin : BitVec 6) (s : State), (line s p).state = .qualify →
    let u := line s p
    let bad := u.qualify.bad + framesLost u f
    let seen : LineUnit := { u with rxExpected := some (f.count + 1), qualify := { u.qualify with bad := bad } }
    let counted (good bad : Nat) : LineUnit :=
      { seen with qualify := { u.qualify with good := good, bad := bad } }
    let passed : LineUnit :=
      { u with
        rxExpected := some (f.count + 1)
        qualify := { u.qualify with good := u.qualify.good + 1, bad := bad, ownPass := true }
        ctl := { u.ctl with qualified := true } }
    let told : LineUnit := { u with rxExpected := some (f.count + 1), qualify := { u.qualify with farQualified := true } }
    let serves (v : LineUnit) : State :=
      evidenceSkip
        (recordEvent .serviceEntry (pairIndex p) u.trainedSend
          (countPair p (fun c => { c with serviceEntries := satInc c.serviceEntries })
            (setLine p
              { v with
                state := .service
                qualification := .stopped
                sendRate := u.trainedSend
                recvRate := u.trainedRecv
                lastReceived := none
                serviceClock := .running 60000000
                monitor := .running 1000
                los := false
                margin := margin.toNat
                svc :=
                  { ServiceRecord.clear with
                    reRateCheck := .running (2 ^ (config s).reRateExp * 64 * 1000) } } s)))
    (u.qualify.ownPass = false → 5 ≤ bad →
        exec (.test p f margin) s = .next (failQualify p .errors (setLine p seen s)) ∧
          exec (.qualified p f margin) s = .next (failQualify p .errors (setLine p seen s))) ∧
      (frameSizeOk .test f = true → u.qualify.ownPass = true →
        exec (.test p f margin) s = .next (setLine p { u with rxExpected := some (f.count + 1) } s)) ∧
      (frameSizeOk .test f = true → u.qualify.ownPass = false → bad < 5 →
        (f.body = testBody (frameSeq f) →
          (u.qualify.good < 511 → exec (.test p f margin) s = .next (setLine p (counted (u.qualify.good + 1) bad) s)) ∧
            (u.qualify.good = 511 → u.qualify.farQualified = false →
              exec (.test p f margin) s = .next (setLine p passed s)) ∧
            (u.qualify.good = 511 → u.qualify.farQualified = true →
              exec (.test p f margin) s = .next (serves passed))) ∧
          (f.body ≠ testBody (frameSeq f) →
            (bad < 4 → exec (.test p f margin) s = .next (setLine p (counted u.qualify.good (bad + 1)) s)) ∧
              (bad = 4 →
                exec (.test p f margin) s =
                  .next (failQualify p .errors (setLine p (counted u.qualify.good 5) s))))) ∧
      (frameSizeOk .qualified f = true →
        (u.qualify.ownPass = true → exec (.qualified p f margin) s = .next (serves told)) ∧
          (u.qualify.ownPass = false → bad < 5 →
            exec (.qualified p f margin) s =
              .next (setLine p { seen with qualify := { seen.qualify with farQualified := true } } s)))

/-- R84 to R86, R88, R90, R99, R101: at each time limit before service the line unit raises k, at most to 7, and is in
QUIET with its hold-off running for the base times 2^k ms at an ACTIVE station, everything of the failed state stopped and
discarded, the frame on the pair cut, a parting LEAVE on it where the cause calls for one; the failure is counted and
handed over as an event with its cause. The model's reading and choice: the last trained values, D and the far ceiling
stay (log 27); a limit whose timer has time left has no effect (log 2). -/
def Obligations.FailureRaisesKAndReturnsToQuiet : Prop :=
  ∀ (p : Pair) (s : State) (n : Nat) (cause : TrainCause) (why : QualifyCause),
    let u := line s p
    let quiet (parting : Option Nat) : LineUnit :=
      { u with
        state := .quiet
        k := min 7 (u.k + 1)
        holdOff :=
          if s.group.mode = .active then .running ((config s).holdOffBase * 2 ^ min 7 (u.k + 1) * 1000) else .held
        monitor := .stopped
        lit := false
        detect := .stopped
        training := .stopped
        qualification := .stopped
        train := .start
        qualify := .start
        serviceClock := .stopped
        svc := .clear
        ctl := .empty
        tx := parting.map (fun rate => ⟨.leave, u.txCount, rate⟩)
        txCount := if parting.isSome then u.txCount + 1 else u.txCount }
    let failed (parting : Option Nat) (cause : Nat) : State :=
      recordEvent .trainingFail (pairIndex p) cause
        (countPair p (fun c => { c with trainingFailures := satInc c.trainingFailures })
          (setLine p (quiet parting) s))
    let unqualified (parting : Option Nat) (cause : Nat) : State :=
      recordEvent .qualificationFail (pairIndex p) cause
        (countPair p (fun c => { c with qualificationFailures := satInc c.qualificationFailures })
          (setLine p (quiet parting) s))
    (u.state = .detect → u.detect = .running 0 → exec (.detectTimeout p) s = .next (failed none 0)) ∧
      (u.state = .train → u.train.echoDeadline = .running 0 →
        exec (.echoTimeout p) s = .next (failed (some 1) 4)) ∧
      (u.state = .train → u.training = .running 0 → exec (.trainingTimeout p) s = .next (failed (some 1) 5)) ∧
      (u.state = .qualify → u.qualification = .running 0 →
        exec (.qualificationTimeout p) s = .next (unqualified (some u.trainedSend) 1)) ∧
      (u.detect = .running (n + 1) → exec (.detectTimeout p) s = .next s) ∧
      (u.train.echoDeadline = .running (n + 1) → exec (.echoTimeout p) s = .next s) ∧
      (u.training = .running (n + 1) → exec (.trainingTimeout p) s = .next s) ∧
      (u.qualification = .running (n + 1) → exec (.qualificationTimeout p) s = .next s) ∧
      failTraining p cause s =
        failed (if cause = .detectTimeout ∨ cause = .farLeave then none else some 1) (trainCauseCode cause) ∧
      failQualify p why s =
        unqualified (if why = .farLeave then none else some u.trainedSend) (qualifyCauseCode why)

/-! ### The line units in service -/

/-- R107, R108, R110, R118, R85: a monitor period that ends in SERVICE or WIND-DOWN is dark when it saw no good frame and
errored when it was dark, saw a bad CRC or is marked errored. An errored one is counted; three dark ones in a row turn LOS
on and three others turn it off, each with an event; in SERVICE the period joins the errored window, whose thousandth closes
it and, at the threshold, starts a wind-down for ERRORS: a WIND-DOWN is placed, a RATE-ASK withdrawn, the 20 ms timer
started, and the window, the streaks, a request and the LOS hold are gone. The next period begins with its marks clear. The
service clock's end makes k 0. That an end whose timer has time left has no effect is the model's choice (log 2). -/
def Obligations.ServicePeriodIsJudged : Prop :=
  ∀ (p : Pair) (s : State) (n : Nat), inService (line s p) = true →
    let u := line s p
    let dark := !u.svc.good
    let errored := dark || u.svc.bad || u.svc.errored
    let count := u.svc.windowErrored + (if errored then 1 else 0)
    let reached := u.svc.windowPeriods = 999 ∧ (config s).errorThreshold ≤ count
    let c := quadGet s.status.live.pairs p
    (u.serviceClock = .running (n + 1) → exec (.serviceClock60s p) s = .next s) ∧
      (u.monitor = .running (n + 1) → exec (.monitorPeriodEnd p) s = .next s) ∧
      (u.serviceClock = .running 0 →
        exec (.serviceClock60s p) s = .next (setLine p { u with k := 0, serviceClock := .stopped } s)) ∧
      (u.monitor = .running 0 → u.svc.windowPeriods ≤ 999 →
        ∃ t, exec (.monitorPeriodEnd p) s = .next t ∧
          (line t p).monitor = .running 1000 ∧ (line t p).svc.good = false ∧ (line t p).svc.bad = false ∧
          (line t p).svc.errored = false ∧
          (u.los = false → dark = true → u.svc.darkRun < 2 →
            (line t p).los = false ∧ (line t p).svc.darkRun = u.svc.darkRun + 1 ∧
              (line t p).svc.nonDarkRun = 0) ∧
          (u.los = false → dark = true → 2 ≤ u.svc.darkRun →
            (line t p).los = true ∧ (line t p).svc.darkRun = 0 ∧
              t.status.ring = (recordEvent .losOn (pairIndex p) 0 s).status.ring ∧
              (u.state = .service → ¬reached →
                (line t p).svc.losHold = .running ((config s).losHold * 1000))) ∧
          (u.los = false → dark = false → (line t p).los = false ∧ (line t p).svc.darkRun = 0) ∧
          (u.los = true → dark = true → (line t p).los = true ∧ (line t p).svc.nonDarkRun = 0) ∧
          (u.los = true → dark = false → u.svc.nonDarkRun < 2 →
            (line t p).los = true ∧ (line t p).svc.nonDarkRun = u.svc.nonDarkRun + 1 ∧
              (line t p).svc.darkRun = 0) ∧
          (u.los = true → dark = false → 2 ≤ u.svc.nonDarkRun →
            (line t p).los = false ∧ (line t p).svc.nonDarkRun = 0 ∧ (line t p).svc.losHold = .stopped ∧
              t.status.ring = (recordEvent .losOff (pairIndex p) 0 s).status.ring) ∧
          ((line t p).los = u.los → t.status.ring = s.status.ring) ∧
          (u.state = .service → u.svc.windowPeriods < 999 →
            (line t p).state = .service ∧ (line t p).svc.windowPeriods = u.svc.windowPeriods + 1 ∧
              (line t p).svc.windowErrored = count) ∧
          (u.state = .service → u.svc.windowPeriods = 999 →
            (line t p).svc.windowPeriods = 0 ∧ (line t p).svc.windowErrored = 0 ∧
              ((config s).errorThreshold ≤ count →
                (line t p).state = .windDown ∧
                  (line t p).ctl = { u.ctl with windDown := some .errors, rateAsk := none } ∧
                  (line t p).svc =
                    { ServiceRecord.clear with
                      darkRun := (line t p).svc.darkRun
                      nonDarkRun := (line t p).svc.nonDarkRun
                      pendingTarget := u.svc.pendingTarget
                      windDown := some ⟨.errors, .running 20000, false, false, false, none⟩ }) ∧
              (count < (config s).errorThreshold → (line t p).state = .service)) ∧
          (¬(u.state = .service ∧ reached) → (line t p).ctl = u.ctl ∧ (line t p).svc.windDown = u.svc.windDown) ∧
          (u.state = .windDown →
            (line t p).state = .windDown ∧ (line t p).svc.windowPeriods = u.svc.windowPeriods ∧
              (line t p).svc.windDown = u.svc.windDown) ∧
          quadGet t.status.live.pairs p =
            { c with
              erroredPeriods := if errored then satInc c.erroredPeriods else c.erroredPeriods
              windDownErrors :=
                if u.state = .service ∧ reached then satInc c.windDownErrors else c.windDownErrors } ∧
          (line t p).queue = u.queue ∧ (line t p).tx = u.tx ∧ (line t p).sendRate = u.sendRate ∧
          (line t p).recvRate = u.recvRate ∧ (line t p).k = u.k ∧ (∀ r, r ≠ p → line t r = line s r) ∧
          t = { s with lines := t.lines, status := t.status })

/-- R111 to R113, R117 to R119, R121: a re-rate check in SERVICE takes the margin m: below 6 it raises the down streak,
above 18 with the receive rate R below the trained rate the up streak, and otherwise both are 0, as they are while a
request is outstanding. The third low check asks for R - ceil(R / 4), or winds down for MARGIN where that is below the min
service rate; the third high one asks for the lower of the trained rate and R + ceil(R / 8). An expired re-rate timer and
a received WIND-DOWN wind the pair down too, the latter without a WIND-DOWN of its own. The model's choices: the level of
the margin input is an operand of the command (log 15); the expiry of a timer that has time left has no effect (log 2). -/
def Obligations.ReRateCheckAsksOrWindsDown : Prop :=
  ∀ (p : Pair) (margin : BitVec 6) (f : Frame) (s : State) (n : Nat) (reason : WindDownReason),
    let u := line s p
    let m := margin.toNat
    let rate := u.recvRate
    let checked (down up : Nat) : LineUnit :=
      { u with
        margin := m
        svc :=
          { u.svc with
            reRateCheck := .running (2 ^ (config s).reRateExp * 64 * 1000)
            downStreak := down
            upStreak := up } }
    let asking (target : Nat) : LineUnit :=
      { checked 0 0 with
        ctl := { u.ctl with rateAsk := some target }
        svc := { (checked 0 0).svc with request := true } }
    let record : WindDownRecord := ⟨reason, .running 20000, false, false, false, none⟩
    (u.svc.reRateCheck = .running (n + 1) → exec (.reRateCheck p margin) s = .next s) ∧
      (u.svc.reRateTimer = .running (n + 1) → exec (.reRateTimeout p) s = .next s) ∧
      (u.state = .service → u.svc.reRateCheck = .running 0 →
        (u.svc.request = true → exec (.reRateCheck p margin) s = .next (setLine p (checked 0 0) s)) ∧
          (u.svc.request = false → m < 6 → u.svc.downStreak < 2 →
            exec (.reRateCheck p margin) s = .next (setLine p (checked (u.svc.downStreak + 1) 0) s)) ∧
          (u.svc.request = false → m < 6 → u.svc.downStreak = 2 →
            (config s).minRate ≤ rate - (rate + 3) / 4 →
            exec (.reRateCheck p margin) s = .next (setLine p (asking (rate - (rate + 3) / 4)) s)) ∧
          (u.svc.request = false → m < 6 → u.svc.downStreak = 2 →
            rate - (rate + 3) / 4 < (config s).minRate →
            exec (.reRateCheck p margin) s = .next (startWindDown p .margin (setLine p (checked 3 0) s))) ∧
          (u.svc.request = false → 18 < m → rate < u.trainedRecv → u.svc.upStreak < 2 →
            exec (.reRateCheck p margin) s = .next (setLine p (checked 0 (u.svc.upStreak + 1)) s)) ∧
          (u.svc.request = false → 18 < m → rate < u.trainedRecv → u.svc.upStreak = 2 →
            exec (.reRateCheck p margin) s =
              .next (setLine p (asking (min u.trainedRecv (rate + (rate + 7) / 8))) s)) ∧
          (u.svc.request = false → 6 ≤ m → m ≤ 18 ∨ u.trainedRecv ≤ rate →
            exec (.reRateCheck p margin) s = .next (setLine p (checked 0 0) s))) ∧
      (u.state = .service → u.svc.request = true → u.svc.reRateTimer = .running 0 →
        exec (.reRateTimeout p) s = .next (startWindDown p .reRateTimeout s)) ∧
      (frameSizeOk .windDown f = true →
        (u.state = .service → exec (.windDown p f) s = .next (startWindDown p .farRequest (checkCount p f s))) ∧
          (u.state = .windDown → exec (.windDown p f) s = .next (checkCount p f s))) ∧
      startWindDown p reason s =
        countPair p
          (fun c =>
            match reason with
            | .errors => { c with windDownErrors := satInc c.windDownErrors }
            | .margin => { c with windDownMargin := satInc c.windDownMargin }
            | .reRateTimeout => { c with windDownReRate := satInc c.windDownReRate }
            | .farRequest => { c with windDownFar := satInc c.windDownFar })
          (setLine p
            { u with
              state := .windDown
              ctl :=
                { u.ctl with
                  leave :=
                    u.ctl.leave ||
                      (decide (reason = .farRequest) && u.queue.isEmpty && u.ctl.windDown.isNone)
                  windDown := if reason = .farRequest then u.ctl.windDown else some reason
                  rateAsk := none }
              svc :=
                { u.svc with
                  losHold := .stopped
                  windowPeriods := 0
                  windowErrored := 0
                  reRateCheck := .stopped
                  downStreak := 0
                  upStreak := 0
                  request := false
                  reRateTimer := .stopped
                  windDown := some record } } s)

/-- R113 to R116, R71: a RATE-ASK in SERVICE records its target, clamped into the min service rate to the trained send rate,
and places a RATE-SWITCH of it, or leaves that to the end of the one on the pair; in WIND-DOWN it does nothing. A
RATE-SWITCH that has gone out puts its rate in effect, ends the pending target equal to it or places a newer one, and is
counted and handed over as an event. A received RATE-SWITCH sets the receive rate, at most the trained one, and ends an
outstanding request. The re-rate timer starts when the RATE-ASK has gone out. The model's choice: the end of a frame and the
choice of the next one are two commands, so that the pair has no frame on it in between (log 8). -/
def Obligations.RateFramesMoveTheRates : Prop :=
  ∀ (p : Pair) (f : Frame) (s : State) (q r : Nat) (i : BitVec 24),
    let u := line s p
    let t := checkCount p f s
    let v := line t p
    let carried := rateField (bodyWord f.body 0)
    let target := max (config s).minRate (min u.trainedSend carried)
    let newer := match u.svc.pendingTarget with | some x => if x = q then none else some x | none => none
    let switched : State :=
      countPair p
        (fun c =>
          if q < u.sendRate then { c with downRates := satInc c.downRates }
          else if u.sendRate < q then { c with upRates := satInc c.upRates }
          else c)
        (setLine p
          { u with
            tx := none
            sendRate := q
            svc := { u.svc with pendingTarget := newer }
            ctl := { u.ctl with rateSwitch := if newer = none then u.ctl.rateSwitch else newer } } s)
    (frameSizeOk .rateAsk f = true → u.state = .service →
        ((∀ x, u.tx = some x → isRateSwitch x.content = false) →
          exec (.rateAsk p f) s =
            .next
              (setLine p
                { v with
                  svc := { v.svc with pendingTarget := some target }
                  ctl := { v.ctl with rateSwitch := some target } } t)) ∧
          (∀ x, u.tx = some x → isRateSwitch x.content = true →
            exec (.rateAsk p f) s =
              .next (setLine p { v with svc := { v.svc with pendingTarget := some target } } t))) ∧
      (frameSizeOk .rateAsk f = true → u.state = .windDown → exec (.rateAsk p f) s = .next t) ∧
      (frameSizeOk .rateSwitch f = true → inService u = true →
        (u.svc.request = false →
          exec (.rateSwitch p f) s = .next (setLine p { v with recvRate := min u.trainedRecv carried } t)) ∧
          (u.svc.request = true →
            exec (.rateSwitch p f) s =
              .next
                (setLine p
                  { v with
                    recvRate := min u.trainedRecv carried
                    ctl := { v.ctl with rateAsk := none }
                    svc :=
                      { v.svc with
                        request := false, reRateTimer := .stopped, downStreak := 0, upStreak := 0 } } t))) ∧
      (u.tx = some ⟨.rateAsk q, i, r⟩ → u.state = .service → u.svc.request = true →
        exec (.rateAskSent p) s =
          .next (setLine p { u with tx := none, svc := { u.svc with reRateTimer := .running 50000 } } s)) ∧
      (u.tx = some ⟨.rateAsk q, i, r⟩ → u.state = .windDown ∨ u.svc.request = false →
        exec (.rateAskSent p) s = .next (setLine p { u with tx := none } s)) ∧
      (u.tx = some ⟨.rateSwitch q, i, r⟩ → inService u = true →
        exec (.rateSwitchSent p) s = .next (recordEvent .reRateDone (pairIndex p) q switched))

/-- R76, R77, R85, R109, R122 to R125, R88, R103: an exit from service to QUIET leaves the pair in QUIET with an empty
queue, its fragments counted as discarded, nothing of service running or pending, k raised while the service clock shows
less than 60 s, a parting LEAVE at the send rate in effect where the reason calls for one, and an event with the reason;
then the evidence skip is tested. The LOS hold, the wind-down limit, a LEAVE in SERVICE, and the last of far LEAVE, empty
queue and own LEAVE's end in WIND-DOWN make one; the exit to OFF at CONFLICT is another statement's. A LEAVE fails TRAIN
and QUALIFY, and does nothing in DETECT. The model's choices and readings: a limit whose timer has time left has no effect
(log 2); at the wind-down limit with the own LEAVE on the pair the exit waits for that LEAVE's end with its reason kept
(log 12); the last trained values, D and the far ceiling stay (log 27), as do the last margin and rates in effect (log
15); an exit in the very moment the service clock comes to 60 s leaves k 0 (log 35); a LEAVE that has gone out leaves the
pair with no frame on it, the choice of the next being another command (log 8). -/
def Obligations.ExitEmptiesTheQueueAndReturnsToQuiet : Prop :=
  ∀ (p : Pair) (s : State) (f : Frame) (n r : Nat) (i : BitVec 24) (w : WindDownRecord),
    let k (u : LineUnit) : Nat :=
      match u.serviceClock with
      | .stopped => u.k
      | .running 0 => 0
      | .running (_ + 1) => min 7 (u.k + 1)
    let left (t : State) (parting : Bool) : State :=
      let u := line t p
      countPair p (fun c => { c with discarded := c.discarded + BitVec.ofNat 32 u.queue.length })
        (setLine p
          { u with
            state := .quiet
            k := k u
            holdOff := if t.group.mode = .active then .running ((config t).holdOffBase * 2 ^ k u * 1000) else .held
            monitor := .stopped
            lit := false
            detect := .stopped
            training := .stopped
            qualification := .stopped
            train := .start
            qualify := .start
            serviceClock := .stopped
            svc := .clear
            queue := []
            ctl := .empty
            tx := if parting then some ⟨.leave, u.txCount, u.sendRate⟩ else none
            txCount := if parting then u.txCount + 1 else u.txCount } t)
    let recorded (reason : Nat) (t : State) : State := evidenceSkip (recordEvent .leftService (pairIndex p) reason t)
    let leave (t : State) : State := countPair p (fun c => { c with leavesReceived := satInc c.leavesReceived }) t
    let u := line s p
    let limited : WindDownRecord := { w with timer := .stopped, deferred := some .windDownLimit }
    let ended : WindDownRecord := { w with leaveEnded := true }
    let far : WindDownRecord := { w with farLeave := true }
    let t := leave (checkCount p f s)
    (u.svc.losHold = .running (n + 1) → exec (.losHoldExpiry p) s = .next s) ∧
      (u.svc.windDown = some w → w.timer = .running (n + 1) → exec (.windDownLimit p) s = .next s) ∧
      (u.state = .service → u.svc.losHold = .running 0 →
        exec (.losHoldExpiry p) s =
          .next
            (recorded 1 (countPair p (fun c => { c with losLosses := satInc c.losLosses }) (left s true)))) ∧
      (u.state = .windDown → u.svc.windDown = some w → w.timer = .running 0 →
        (w.leaveStarted = false → exec (.windDownLimit p) s = .next (recorded 3 (left s true))) ∧
          (w.leaveStarted = true → w.leaveEnded = true →
            exec (.windDownLimit p) s = .next (recorded 3 (left s false))) ∧
          (w.leaveStarted = true → w.leaveEnded = false →
            exec (.windDownLimit p) s = .next (setLine p { u with svc := { u.svc with windDown := some limited } } s))) ∧
      (u.state = .windDown → u.tx = some ⟨.leave, i, r⟩ → u.svc.windDown = some w → w.leaveStarted = true →
        let v : LineUnit := { u with tx := none, svc := { u.svc with windDown := some ended } }
        (w.deferred = none → w.farLeave = true → u.queue = [] →
          exec (.ownLeaveSent p) s = .next (recorded 2 (left (setLine p v s) false))) ∧
          (w.deferred = some .windDownLimit →
            exec (.ownLeaveSent p) s = .next (recorded 3 (left (setLine p v s) false))) ∧
          (w.deferred = none → w.farLeave = false ∨ u.queue ≠ [] →
            exec (.ownLeaveSent p) s = .next (setLine p v s))) ∧
      (u.state = .quiet → u.tx = some ⟨.leave, i, r⟩ →
        exec (.ownLeaveSent p) s = .next (setLine p { u with tx := none } s)) ∧
      (frameSizeOk .leave f = true →
        (u.state = .service → exec (.leave p f) s = .next (recorded 0 (left t false))) ∧
          (u.state = .windDown → u.svc.windDown = some w → u.queue = [] →
            w.leaveStarted = false ∨ w.leaveEnded = true →
            exec (.leave p f) s =
              .next
                (recorded 2
                  (left (setLine p { line t p with svc := { (line t p).svc with windDown := some far } } t)
                    (!w.leaveStarted)))) ∧
          (u.state = .windDown → u.svc.windDown = some w →
            u.queue ≠ [] ∨ (w.leaveStarted = true ∧ w.leaveEnded = false) →
            exec (.leave p f) s =
              .next (setLine p { line t p with svc := { (line t p).svc with windDown := some far } } t)) ∧
          (u.state = .train → exec (.leave p f) s = .next (failTraining p .farLeave (checkCount p f s))) ∧
          (u.state = .qualify → u.qualify.ownPass = true ∨ u.qualify.bad + framesLost u f < 5 →
            exec (.leave p f) s = .next (failQualify p .farLeave (checkCount p f s))) ∧
          (u.state = .detect →
            exec (.leave p f) s = .next (setLine p { u with rxExpected := some (f.count + 1) } s)))

/-! ### The transmitter and the receiving side -/

/-- R68 to R73, R75, R76, R78, R121, R122: the choice of a pair in SERVICE or WIND-DOWN with no frame on it: the first
pending one of LEAVE, WIND-DOWN, RATE-SWITCH, QUALIFIED and RATE-ASK, whose slot empties; otherwise a FRAG of the head
fragment, which stays in the queue; otherwise an IDLE, which is counted. The frame carries the transmit frame count, which
rises by one, and goes at the send rate in effect. At a FRAG's end its fragment leaves the queue and is counted as sent, and
the choice follows. In WIND-DOWN an own LEAVE that is due is placed, and the pair exits where the FRAG was the last and the
far LEAVE has come. An exit taken between a FRAG's end and the choice cuts no frame: the fragment counts as sent, the rest
as discarded, and the parting LEAVE carries the count that follows the FRAG's. The model's choice: the end of a frame and
the choice of the next one are two commands, so that the pair has no frame on it in between (log 8), and an exit may come
there. -/
def Obligations.ServiceBoundaryChoosesInOrder : Prop :=
  ∀ (p : Pair) (s : State) (i : BitVec 24) (q r : Nat) (x y : Fragment) (rest : List Fragment)
    (why : WindDownReason), inService (line s p) = true →
    let u := line s p
    let due (v : LineUnit) : Bool :=
      v.state == .windDown && v.queue.isEmpty && v.ctl.windDown.isNone &&
        (v.svc.windDown.map (fun w => !w.farLeave && !w.leaveStarted)).getD false
    let placed (v : LineUnit) : LineUnit := { v with ctl := { v.ctl with leave := v.ctl.leave || due v } }
    let sends (content : TxContent) (v : LineUnit) : State :=
      setLine p { placed v with tx := some ⟨content, u.txCount, u.sendRate⟩, txCount := u.txCount + 1 } s
    let gone : State :=
      countPair p
        (fun c => { c with fragsSent := c.fragsSent + 1, bytesSent := c.bytesSent + BitVec.ofNat 40 x.length })
        (setLine p (placed { u with tx := none, queue := rest }) s)
    (u.tx = none →
        exec (.frameBoundary p) s = .next (chooseNext p s) ∧
          (u.ctl.leave = true →
            chooseNext p s =
              sends .leave
                { u with
                  ctl := { u.ctl with leave := false }
                  svc :=
                    { u.svc with windDown := u.svc.windDown.map (fun w => { w with leaveStarted := true }) } }) ∧
          (u.ctl.leave = false → u.ctl.windDown = some why →
            chooseNext p s = sends (.windDown why) { u with ctl := { u.ctl with windDown := none } }) ∧
          (u.ctl.leave = false → u.ctl.windDown = none → u.ctl.rateSwitch = some q →
            chooseNext p s = sends (.rateSwitch q) { u with ctl := { u.ctl with rateSwitch := none } }) ∧
          (u.ctl.leave = false → u.ctl.windDown = none → u.ctl.rateSwitch = none → u.ctl.qualified = true →
            chooseNext p s = sends .qualified { u with ctl := { u.ctl with qualified := false } }) ∧
          (u.ctl.leave = false → u.ctl.windDown = none → u.ctl.rateSwitch = none → u.ctl.qualified = false →
            u.ctl.rateAsk = some q →
            chooseNext p s = sends (.rateAsk q) { u with ctl := { u.ctl with rateAsk := none } }) ∧
          (u.ctl = .empty → u.queue = x :: rest → chooseNext p s = sends (.frag x) u) ∧
          (u.ctl = .empty → u.queue = [] →
            chooseNext p s = countPair p (fun c => { c with idleFrames := c.idleFrames + 1 }) (sends .idle u))) ∧
      (u.tx = some ⟨.idle, i, r⟩ →
        exec (.frameBoundary p) s = .next (chooseNext p (setLine p { u with tx := none } s))) ∧
      (u.tx = some ⟨.frag y, i, r⟩ → u.queue = x :: rest →
        (u.state = .service ∨ rest ≠ [] ∨ (∀ w, u.svc.windDown = some w → w.farLeave = false) →
          exec (.fragComplete p) s = .next gone ∧ exec (.frameBoundary p) s = .next (chooseNext p gone)) ∧
          (∀ w, u.state = .windDown → u.svc.windDown = some w → rest = [] → w.farLeave = true →
            w.leaveStarted = false ∨ w.leaveEnded = true →
            exec (.fragComplete p) s = .next (exitPair p .windDownEnd gone))) ∧
      (u.tx = some ⟨.frag y, i, r⟩ → u.queue = x :: rest → u.state = .service → u.svc.losHold = .running 0 →
        let c := quadGet s.status.live.pairs p
        ∃ t v, exec (.fragComplete p) s = .next t ∧ exec (.losHoldExpiry p) t = .next v ∧
          (line v p).tx = some ⟨.leave, u.txCount, u.sendRate⟩ ∧ (line v p).txCount = u.txCount + 1 ∧
          (line v p).queue = [] ∧
          quadGet v.status.live.pairs p =
            { c with
              fragsSent := c.fragsSent + 1
              bytesSent := c.bytesSent + BitVec.ofNat 40 x.length
              discarded := c.discarded + BitVec.ofNat 32 rest.length
              losLosses := satInc c.losLosses })

/-- R68, R81, R89 to R91, R94, R98, R100, R75: the choice of a pair before service with no frame on it. DETECT sends WAKE
at rate code 1. TRAIN sends the first of a pending ECHO, with its turnaround, VERDICT, closing PROBE, ECHO-ASK and the
next PROBE of its burst, which sets the verdict deadline as the first goes out, and otherwise PARAMS or WAKE. QUALIFY
sends a pending LEAVE, QUALIFIED, or the next TEST, at the trained send rate. QUIET and OFF send nothing. In any state a
frame boundary that ends a frame whose end has no effect of its own is the choice with no frame on the pair, and one that
ends any other frame is that frame's end and then the choice, where that end has put no parting LEAVE on the pair. The
model's choices: the end of a frame and the choice of the next one are two commands, so that the pair has no frame on it
in between (log 8), and a boundary makes both; the turnaround is sent in 16 bits (log 16), an ECHO goes at the trained
send rate as it stands, also before there is one (log 22), and the verdict deadline is rounded up to a whole microsecond
(log 3). -/
def Obligations.BringUpBoundaryChoosesInOrder : Prop :=
  (∀ (p : Pair) (s : State) (x : TxFrame), (line s p).tx = some x →
    let cleared := setLine p { line s p with tx := none } s
    ((∃ role, x.content = .wake role) ∨ (∃ role lo hi c held, x.content = .params role lo hi c held) ∨
          (∃ b r i, x.content = .probe b r i) ∨ (∃ b g clean, x.content = .verdict b g clean) ∨
          (∃ r, x.content = .closingVerdict r) ∨ (∃ i, x.content = .test i) ∨ x.content = .qualified ∨
          x.content = .idle ∨ (∃ why, x.content = .windDown why) →
        exec (.frameBoundary p) s = exec (.frameBoundary p) cleared) ∧
      ∀ (c : Instr) (t : State),
        c ∈ [.fragComplete p, .rateSwitchSent p, .rateAskSent p, .echoAskSent p, .echoSent p, .closingProbeSent p,
          .ownLeaveSent p] →
        exec c s = .next t → (line t p).tx = none → exec (.frameBoundary p) s = exec (.frameBoundary p) t) ∧
  ∀ (p : Pair) (s : State) (t2 : Stamp) (b g i rate : Nat) (clean : Bool) (sr : Search), (line s p).tx = none →
    let u := line s p
    let sends (content : TxContent) (rate : Nat) (v : LineUnit) : Host.Outcome State Fault Refusal :=
      .next (setLine p { v with tx := some ⟨content, u.txCount, rate⟩, txCount := u.txCount + 1 } s)
    let train (v : TrainRecord) : LineUnit := { u with train := v }
    let t := u.train
    let c := config s
    (u.state = .off ∨ u.state = .quiet → exec (.frameBoundary p) s = .next s) ∧
      (u.state = .detect → exec (.frameBoundary p) s = sends (.wake c.role) 1 u) ∧
      (u.state = .train →
        (t.echoReply = some t2 →
            exec (.frameBoundary p) s =
              sends (.echo ((s.timeBase - t2).setWidth 16)) u.trainedSend (train { t with echoReply := none })) ∧
          (t.echoReply = none → t.verdict = some (.burst b g clean) →
            exec (.frameBoundary p) s = sends (.verdict b g clean) 1 (train { t with verdict := none })) ∧
          (t.echoReply = none → t.verdict = some (.closing rate) →
            exec (.frameBoundary p) s = sends (.closingVerdict rate) 1 (train { t with verdict := none })) ∧
          (t.echoReply = none → t.verdict = none →
            (t.closingPending = true →
                exec (.frameBoundary p) s =
                  sends (.closingProbe u.trainedSend) 1 (train { t with closingPending := false })) ∧
              (t.closingPending = false → t.echoAskPending = true →
                exec (.frameBoundary p) s = sends .echoAsk u.trainedSend (train { t with echoAskPending := false })) ∧
              (t.closingPending = false → t.echoAskPending = false →
                (t.search = some sr → t.probeNext = some i →
                    exec (.frameBoundary p) s =
                      sends (.probe sr.burst sr.candidate i) sr.candidate
                        (train
                          { t with
                            probeNext := if i < 63 then some (i + 1) else none
                            deadline :=
                              if i = 0 then .running ((1024000 + sr.candidate - 1) / sr.candidate + 100000)
                              else t.deadline })) ∧
                  (t.search = none ∨ t.probeNext = none →
                    (t.paramsFill = true →
                        exec (.frameBoundary p) s =
                          sends (.params c.role c.minRate c.maxRate c.ceiling u.farParams.isSome) 1 u) ∧
                      (t.paramsFill = false → exec (.frameBoundary p) s = sends (.wake c.role) 1 u))))) ∧
      (u.state = .qualify →
        (u.ctl.leave = true →
            exec (.frameBoundary p) s =
              sends .leave u.trainedSend { u with ctl := { u.ctl with leave := false } }) ∧
          (u.ctl.leave = false → u.ctl.qualified = true →
            exec (.frameBoundary p) s =
              sends .qualified u.trainedSend { u with ctl := { u.ctl with qualified := false } }) ∧
          (u.ctl.leave = false → u.ctl.qualified = false →
            exec (.frameBoundary p) s =
              sends (.test u.qualify.testIndex) u.trainedSend
                { u with qualify := { u.qualify with testIndex := u.qualify.testIndex + 1 } }))

/-- R72, R74, R81, R101, R107, R128, R182: a good frame sets the expected count to its own count plus one, and its count
minus the expected one, g, is how many were lost. In SERVICE and WIND-DOWN they are counted and mark the period errored,
and the frame marks it good; in QUALIFY before the own pass they count as bad, and the fifth fails it, the frame that
showed them, of whatever kind, then not being acted on; elsewhere no more happens. A frame of a kind that the state does
not act on ends there, as an IDLE and an unknown kind always do. A bad CRC, and a wrong size of any kind, counts a bad
frame and marks the period in SERVICE and WIND-DOWN, and does nothing in TRAIN and QUALIFY; the wrong size does nothing in
DETECT either. OFF and QUIET ignore frames of every kind. The model's reading and choice: a frame of a wrong size also
marks its period good and has its count checked (log 19), a frame taken in the moment a monitor period ends, before its
end, marks that period (log 36), and a FRAG whose lost frames fail QUALIFY is not counted as out of state (log 34). -/
def Obligations.FrameCountIsChecked : Prop :=
  ∀ (p : Pair) (f : Frame) (kind : Byte) (m : BitVec 6) (s : State),
    let u := line s p
    let training : List (FrameKind × Instr) :=
      [(.probe, .probe p f), (.probe, .closingProbe p f), (.verdict, .verdict p f), (.verdict, .closingVerdict p f),
        (.echoAsk, .echoAsk p f), (.echo, .echo p f)]
    let qualifying : List (FrameKind × Instr) := [(.test, .test p f m), (.qualified, .qualified p f m)]
    let serving : List (FrameKind × Instr) :=
      [(.rateAsk, .rateAsk p f), (.rateSwitch, .rateSwitch p f), (.windDown, .windDown p f)]
    let meeting : List (FrameKind × Instr) := [(.wake, .wake p f), (.params, .params p f)]
    let all : List (FrameKind × Instr) :=
      (.frag, .frag p f) :: (.idle, .idle p f) :: (.leave, .leave p f) :: (meeting ++ training ++ qualifying ++ serving)
    let onlyCounted (others : List (FrameKind × Instr)) (t : State) : Prop :=
      ∀ x ∈ others, frameSizeOk x.1 f = true → exec x.2 s = .next t
    let wrongSize (t : State) : Prop := ∀ x ∈ all, frameSizeOk x.1 f = false → exec x.2 s = .next t
    let g := match u.rxExpected with | none => 0 | some e => (f.count - e).toNat
    let seen : LineUnit := { u with rxExpected := some (f.count + 1) }
    let bad (t : State) : State :=
      countPair p (fun c => { c with badFrames := satInc c.badFrames })
        (setLine p { line t p with svc := { (line t p).svc with bad := true } } t)
    let marked : State :=
      countPair p (fun c => { c with lostFrames := satAdd c.lostFrames g })
        (setLine p
          { seen with svc := { u.svc with good := true, errored := u.svc.errored || decide (0 < g) } } s)
    let judged : LineUnit := { seen with qualify := { u.qualify with bad := u.qualify.bad + g } }
    (inService u = true →
        checkCount p f s = marked ∧ exec (.unknownFrameKind p kind f) s = .next marked ∧
          (frameSizeOk .idle f = true → exec (.idle p f) s = .next marked) ∧
          wrongSize (bad marked) ∧
          exec (.frameBadCrc p) s = .next (bad s) ∧ onlyCounted (meeting ++ training ++ qualifying) marked) ∧
      (u.state = .detect → onlyCounted (training ++ qualifying ++ serving) (setLine p seen s)) ∧
      (u.state = .train → onlyCounted ((.wake, .wake p f) :: (qualifying ++ serving)) (setLine p seen s)) ∧
      (u.state = .qualify → u.qualify.ownPass = true →
        onlyCounted ((.test, .test p f m) :: (meeting ++ training ++ serving)) (setLine p seen s)) ∧
      (u.state = .detect ∨ u.state = .train ∨ (u.state = .qualify ∧ u.qualify.ownPass = true) →
        checkCount p f s = setLine p seen s ∧ exec (.unknownFrameKind p kind f) s = .next (setLine p seen s) ∧
          exec (.idle p f) s = .next (setLine p seen s) ∧ wrongSize (setLine p seen s)) ∧
      (u.state = .qualify → u.qualify.ownPass = false → u.qualify.bad + g < 5 →
        checkCount p f s = setLine p judged s ∧ exec (.unknownFrameKind p kind f) s = .next (setLine p judged s) ∧
          exec (.idle p f) s = .next (setLine p judged s) ∧ wrongSize (setLine p judged s) ∧
          onlyCounted (meeting ++ training ++ serving) (setLine p judged s)) ∧
      (u.state = .qualify → u.qualify.ownPass = false → 5 ≤ u.qualify.bad + g →
        exec (.unknownFrameKind p kind f) s = .next (failQualify p .errors (setLine p judged s)) ∧
          ∀ x ∈ all, exec x.2 s = .next (failQualify p .errors (setLine p judged s))) ∧
      (u.state = .train ∨ u.state = .qualify → exec (.frameBadCrc p) s = .next s) ∧
      (u.state = .off ∨ u.state = .quiet →
        exec (.frameBadCrc p) s = .next s ∧ exec (.unknownFrameKind p kind f) s = .next s ∧
          ∀ x ∈ all, exec x.2 s = .next s)

/-- R127 to R131, R142, R150, R152, R157: a FRAG of its stated size, received in SERVICE or WIND-DOWN at an ACTIVE
station, sets the pair's last-received sequence, is counted with its bytes, and is handed to the hold queue with the time
base as its stamp; the skip timer is loaded when the head comes to wait and stopped, its SKIP withdrawn, when it no longer
does, a RELEASE of a head at E is placed and the evidence skip is tested. In DETECT, TRAIN and QUALIFY it is out of state;
one of another size is a bad frame in service and nothing before it; OFF and QUIET ignore it. The model's choice and
readings: the SKIP that the end of the waiting condition withdraws is, when it is on the line already, one that is not
retried (log 10); one whose own lost frames fail QUALIFY is not counted as out of state (log 34), and a pair that waits
out its own LEAVE at a station that is not ACTIVE hands nothing over (log 12). -/
def Obligations.FragIsHandedToTheHoldQueue : Prop :=
  ∀ (p : Pair) (f : Frame) (s : State) (e : Seq),
    let u := line s p
    let x : HoldEntry :=
      ⟨frameSeq f, p, f.lenLess1.toNat + 1, frameStartMark f, frameEndMark f, s.timeBase, f.body⟩
    let t := checkCount p f s
    let received : State :=
      countPair p
        (fun c =>
          { c with
            fragsReceived := c.fragsReceived + 1
            bytesReceived := c.bytesReceived + BitVec.ofNat 40 (f.lenLess1.toNat + 1) })
        (setLine p { line t p with lastReceived := some (frameSeq f) } t)
    let stored := classifyArrival e x received
    (frameSizeOk .frag f = true ↔ 16 ≤ f.lenLess1.toNat + 1 ∧ f.body.length = f.lenLess1.toNat + 1) ∧
      (frameSizeOk .frag f = true → inService u = true → s.group.mode = .active → s.release.e = some e →
        (waiting s = waiting stored → exec (.frag p f) s = .next (evidenceSkip (tryRelease stored))) ∧
          (waiting s = false → waiting stored = true →
            exec (.frag p f) s =
              .next
                (evidenceSkip
                  (tryRelease
                    { stored with
                      release :=
                        { s.release with
                          skipTimer :=
                            if s.release.hold then .frozen (effectiveSkip s) else .running (effectiveSkip s) } }))) ∧
          (waiting s = true → waiting stored = false →
            exec (.frag p f) s =
              .next
                (evidenceSkip
                  (tryRelease (withdrawBlock .skip { stored with release := { s.release with skipTimer := .stopped } }))))) ∧
      (frameSizeOk .frag f = true →
        u.state = .detect ∨ u.state = .train ∨
          (u.state = .qualify ∧ (u.qualify.ownPass = true ∨ u.qualify.bad + framesLost u f < 5)) →
        exec (.frag p f) s = .next (countStation (fun c => { c with outOfState := satInc c.outOfState }) t)) ∧
      (frameSizeOk .frag f = true → inService u = true → s.group.mode ≠ .active → exec (.frag p f) s = .next t) ∧
      (u.state = .qualify → u.qualify.ownPass = false → 5 ≤ u.qualify.bad + framesLost u f →
        exec (.frag p f) s = .next t) ∧
      (frameSizeOk .frag f = false → u.state = .detect ∨ u.state = .train ∨ u.state = .qualify →
        exec (.frag p f) s = .next t) ∧
      (u.state = .off ∨ u.state = .quiet → exec (.frag p f) s = .next s) ∧
      (frameSizeOk .frag f = false → inService u = true →
        exec (.frag p f) s =
          .next
            (countPair p (fun c => { c with badFrames := satInc c.badFrames })
              (setLine p { line t p with svc := { (line t p).svc with bad := true } } t)))
end

