-- ==== Sys2Proof/Laws/State.lean ====
section
/-! SUPPORT. The fields of the state after each update: one lemma for every field an update leaves as it was, true by
`rfl`, and the lemmas of the containers. -/

namespace Sys2Proof.Machine

/-! ### Containers -/

@[simp] theorem quadGet_quadSet_same {α : Type} (q : Quad α) (p : Pair) (x : α) : quadGet (quadSet q p x) p = x := by
  cases p <;> rfl

theorem quadGet_quadSet_other {α : Type} (q : Quad α) {p r : Pair} (x : α) (h : r ≠ p) :
    quadGet (quadSet q p x) r = quadGet q r := by
  cases p <;> cases r <;> first | rfl | exact absurd rfl h

@[simp] theorem quadGet_quadOf {α : Type} (f : Pair → α) (p : Pair) : quadGet (quadOf f) p = f p := by
  cases p <;> rfl

@[simp] theorem quadGet_all {α : Type} (x : α) (p : Pair) : quadGet (Quad.all x) p = x := by cases p <;> rfl

@[simp] theorem stationGet_stationSet_same {α : Type} (t : PerStation α) (k : StationNo) (x : α) :
    stationGet (stationSet t k x) k = x := by cases k <;> rfl

theorem stationGet_stationSet_other {α : Type} (t : PerStation α) {k j : StationNo} (x : α) (h : j ≠ k) :
    stationGet (stationSet t k x) j = stationGet t j := by
  cases k <;> cases j <;> first | rfl | exact absurd rfl h

@[simp] theorem stationGet_all {α : Type} (x : α) (k : StationNo) : stationGet (PerStation.all x) k = x := by
  cases k <;> rfl

@[simp] theorem pairOfBits_pairBits (p : Pair) : pairOfBits (pairBits p) = p := by cases p <;> rfl

@[simp] theorem stationOfAddress_stationAddress (k : StationNo) :
    stationOfAddress (stationAddress k) = some k := by cases k <;> rfl

@[simp] theorem slotOf_setSlot_same (b : BusPort) (k : SlotKind) (x : Option PendingBlock) :
    slotOf (setSlot b k x) k = x := by cases k <;> rfl

theorem slotOf_setSlot_other (b : BusPort) {k j : SlotKind} (x : Option PendingBlock) (h : j ≠ k) :
    slotOf (setSlot b k x) j = slotOf b j := by
  cases k <;> cases j <;> first | rfl | exact absurd rfl h

@[simp] theorem valueSeq_seqValue (q : Seq) : valueSeq (seqValue q) = q := by
  apply BitVec.eq_of_toNat_eq
  simp only [valueSeq, seqValue, BitVec.toNat_setWidth]
  have := q.isLt
  omega

@[simp] theorem setSlot_onLine (b : BusPort) (k : SlotKind) (x : Option PendingBlock) :
    (setSlot b k x).onLine = b.onLine := by cases k <;> rfl

@[simp] theorem setSlot_receiveBuffer (b : BusPort) (k : SlotKind) (x : Option PendingBlock) :
    (setSlot b k x).receiveBuffer = b.receiveBuffer := by cases k <;> rfl

@[simp] theorem setSlot_idleWait (b : BusPort) (k : SlotKind) (x : Option PendingBlock) :
    (setSlot b k x).idleWait = b.idleWait := by cases k <;> rfl

@[simp] theorem setSlot_dominant (b : BusPort) (k : SlotKind) (x : Option PendingBlock) :
    (setSlot b k x).dominant = b.dominant := by cases k <;> rfl

@[simp] theorem setSlot_latch (b : BusPort) (k : SlotKind) (x : Option PendingBlock) :
    (setSlot b k x).latch = b.latch := by cases k <;> rfl

@[simp] theorem setSlot_slotOpen (b : BusPort) (k : SlotKind) (x : Option PendingBlock) :
    (setSlot b k x).slotOpen = b.slotOpen := by cases k <;> rfl

@[simp] theorem line_setLine_same (p : Pair) (u : LineUnit) (s : State) : line (setLine p u s) p = u :=
  quadGet_quadSet_same s.lines p u

theorem line_setLine_other {p r : Pair} (u : LineUnit) (s : State) (h : r ≠ p) :
    line (setLine p u s) r = line s r := quadGet_quadSet_other s.lines u h

@[simp] theorem line_modLine_same (p : Pair) (f : LineUnit → LineUnit) (s : State) :
    line (modLine p f s) p = f (line s p) := line_setLine_same p (f (line s p)) s

theorem line_modLine_other {p r : Pair} (f : LineUnit → LineUnit) (s : State) (h : r ≠ p) :
    line (modLine p f s) r = line s r := line_setLine_other (f (line s p)) s h

/-! ### Fields an update leaves as they were -/

@[simp] theorem setLine_port (p : Pair) (u : LineUnit) (s : State) : (setLine p u s).port = s.port := rfl
@[simp] theorem setLine_group (p : Pair) (u : LineUnit) (s : State) : (setLine p u s).group = s.group := rfl
@[simp] theorem setLine_sequencer (p : Pair) (u : LineUnit) (s : State) : (setLine p u s).sequencer = s.sequencer := rfl
@[simp] theorem setLine_holdQueue (p : Pair) (u : LineUnit) (s : State) : (setLine p u s).holdQueue = s.holdQueue := rfl
@[simp] theorem setLine_release (p : Pair) (u : LineUnit) (s : State) : (setLine p u s).release = s.release := rfl
@[simp] theorem setLine_status (p : Pair) (u : LineUnit) (s : State) : (setLine p u s).status = s.status := rfl
@[simp] theorem setLine_timeBase (p : Pair) (u : LineUnit) (s : State) : (setLine p u s).timeBase = s.timeBase := rfl
@[simp] theorem setLine_pending (p : Pair) (u : LineUnit) (s : State) : (setLine p u s).pending = s.pending := rfl
@[simp] theorem config_setLine (p : Pair) (u : LineUnit) (s : State) : config (setLine p u s) = config s := rfl
@[simp] theorem isActive_setLine (p : Pair) (u : LineUnit) (s : State) : isActive (setLine p u s) = isActive s := rfl

@[simp] theorem modLine_port (p : Pair) (f : LineUnit → LineUnit) (s : State) : (modLine p f s).port = s.port := rfl
@[simp] theorem modLine_group (p : Pair) (f : LineUnit → LineUnit) (s : State) : (modLine p f s).group = s.group := rfl
@[simp] theorem modLine_sequencer (p : Pair) (f : LineUnit → LineUnit) (s : State) : (modLine p f s).sequencer = s.sequencer := rfl
@[simp] theorem modLine_holdQueue (p : Pair) (f : LineUnit → LineUnit) (s : State) : (modLine p f s).holdQueue = s.holdQueue := rfl
@[simp] theorem modLine_release (p : Pair) (f : LineUnit → LineUnit) (s : State) : (modLine p f s).release = s.release := rfl
@[simp] theorem modLine_status (p : Pair) (f : LineUnit → LineUnit) (s : State) : (modLine p f s).status = s.status := rfl
@[simp] theorem modLine_timeBase (p : Pair) (f : LineUnit → LineUnit) (s : State) : (modLine p f s).timeBase = s.timeBase := rfl
@[simp] theorem modLine_pending (p : Pair) (f : LineUnit → LineUnit) (s : State) : (modLine p f s).pending = s.pending := rfl
@[simp] theorem config_modLine (p : Pair) (f : LineUnit → LineUnit) (s : State) : config (modLine p f s) = config s := rfl
@[simp] theorem isActive_modLine (p : Pair) (f : LineUnit → LineUnit) (s : State) : isActive (modLine p f s) = isActive s := rfl

@[simp] theorem countStation_port (f : StationCounters → StationCounters) (s : State) : (countStation f s).port = s.port := rfl
@[simp] theorem countStation_group (f : StationCounters → StationCounters) (s : State) : (countStation f s).group = s.group := rfl
@[simp] theorem countStation_sequencer (f : StationCounters → StationCounters) (s : State) : (countStation f s).sequencer = s.sequencer := rfl
@[simp] theorem countStation_lines (f : StationCounters → StationCounters) (s : State) : (countStation f s).lines = s.lines := rfl
@[simp] theorem countStation_holdQueue (f : StationCounters → StationCounters) (s : State) : (countStation f s).holdQueue = s.holdQueue := rfl
@[simp] theorem countStation_release (f : StationCounters → StationCounters) (s : State) : (countStation f s).release = s.release := rfl
@[simp] theorem countStation_timeBase (f : StationCounters → StationCounters) (s : State) : (countStation f s).timeBase = s.timeBase := rfl
@[simp] theorem countStation_pending (f : StationCounters → StationCounters) (s : State) : (countStation f s).pending = s.pending := rfl
@[simp] theorem line_countStation (f : StationCounters → StationCounters) (s : State) (r : Pair) : line (countStation f s) r = line s r := rfl
@[simp] theorem config_countStation (f : StationCounters → StationCounters) (s : State) : config (countStation f s) = config s := rfl
@[simp] theorem isActive_countStation (f : StationCounters → StationCounters) (s : State) : isActive (countStation f s) = isActive s := rfl

@[simp] theorem countPair_port (p : Pair) (f : PairCounters → PairCounters) (s : State) : (countPair p f s).port = s.port := rfl
@[simp] theorem countPair_group (p : Pair) (f : PairCounters → PairCounters) (s : State) : (countPair p f s).group = s.group := rfl
@[simp] theorem countPair_sequencer (p : Pair) (f : PairCounters → PairCounters) (s : State) : (countPair p f s).sequencer = s.sequencer := rfl
@[simp] theorem countPair_lines (p : Pair) (f : PairCounters → PairCounters) (s : State) : (countPair p f s).lines = s.lines := rfl
@[simp] theorem countPair_holdQueue (p : Pair) (f : PairCounters → PairCounters) (s : State) : (countPair p f s).holdQueue = s.holdQueue := rfl
@[simp] theorem countPair_release (p : Pair) (f : PairCounters → PairCounters) (s : State) : (countPair p f s).release = s.release := rfl
@[simp] theorem countPair_timeBase (p : Pair) (f : PairCounters → PairCounters) (s : State) : (countPair p f s).timeBase = s.timeBase := rfl
@[simp] theorem countPair_pending (p : Pair) (f : PairCounters → PairCounters) (s : State) : (countPair p f s).pending = s.pending := rfl
@[simp] theorem line_countPair (p : Pair) (f : PairCounters → PairCounters) (s : State) (r : Pair) : line (countPair p f s) r = line s r := rfl
@[simp] theorem config_countPair (p : Pair) (f : PairCounters → PairCounters) (s : State) : config (countPair p f s) = config s := rfl
@[simp] theorem isActive_countPair (p : Pair) (f : PairCounters → PairCounters) (s : State) : isActive (countPair p f s) = isActive s := rfl

@[simp] theorem placeBlock_group (k : SlotKind) (blk : BusBlock) (s : State) : (placeBlock k blk s).group = s.group := rfl
@[simp] theorem placeBlock_sequencer (k : SlotKind) (blk : BusBlock) (s : State) : (placeBlock k blk s).sequencer = s.sequencer := rfl
@[simp] theorem placeBlock_lines (k : SlotKind) (blk : BusBlock) (s : State) : (placeBlock k blk s).lines = s.lines := rfl
@[simp] theorem placeBlock_holdQueue (k : SlotKind) (blk : BusBlock) (s : State) : (placeBlock k blk s).holdQueue = s.holdQueue := rfl
@[simp] theorem placeBlock_release (k : SlotKind) (blk : BusBlock) (s : State) : (placeBlock k blk s).release = s.release := rfl
@[simp] theorem placeBlock_status (k : SlotKind) (blk : BusBlock) (s : State) : (placeBlock k blk s).status = s.status := rfl
@[simp] theorem placeBlock_timeBase (k : SlotKind) (blk : BusBlock) (s : State) : (placeBlock k blk s).timeBase = s.timeBase := rfl
@[simp] theorem placeBlock_pending (k : SlotKind) (blk : BusBlock) (s : State) : (placeBlock k blk s).pending = s.pending := rfl
@[simp] theorem line_placeBlock (k : SlotKind) (blk : BusBlock) (s : State) (r : Pair) : line (placeBlock k blk s) r = line s r := rfl
@[simp] theorem config_placeBlock (k : SlotKind) (blk : BusBlock) (s : State) : config (placeBlock k blk s) = config s := rfl
@[simp] theorem isActive_placeBlock (k : SlotKind) (blk : BusBlock) (s : State) : isActive (placeBlock k blk s) = isActive s := rfl

@[simp] theorem withdrawBlock_group (k : SlotKind) (s : State) : (withdrawBlock k s).group = s.group := rfl
@[simp] theorem withdrawBlock_sequencer (k : SlotKind) (s : State) : (withdrawBlock k s).sequencer = s.sequencer := rfl
@[simp] theorem withdrawBlock_lines (k : SlotKind) (s : State) : (withdrawBlock k s).lines = s.lines := rfl
@[simp] theorem withdrawBlock_holdQueue (k : SlotKind) (s : State) : (withdrawBlock k s).holdQueue = s.holdQueue := rfl
@[simp] theorem withdrawBlock_release (k : SlotKind) (s : State) : (withdrawBlock k s).release = s.release := rfl
@[simp] theorem withdrawBlock_status (k : SlotKind) (s : State) : (withdrawBlock k s).status = s.status := rfl
@[simp] theorem withdrawBlock_timeBase (k : SlotKind) (s : State) : (withdrawBlock k s).timeBase = s.timeBase := rfl
@[simp] theorem withdrawBlock_pending (k : SlotKind) (s : State) : (withdrawBlock k s).pending = s.pending := rfl
@[simp] theorem line_withdrawBlock (k : SlotKind) (s : State) (r : Pair) : line (withdrawBlock k s) r = line s r := rfl
@[simp] theorem config_withdrawBlock (k : SlotKind) (s : State) : config (withdrawBlock k s) = config s := rfl
@[simp] theorem isActive_withdrawBlock (k : SlotKind) (s : State) : isActive (withdrawBlock k s) = isActive s := rfl

@[simp] theorem emptySlots_group (s : State) : (emptySlots s).group = s.group := rfl
@[simp] theorem emptySlots_sequencer (s : State) : (emptySlots s).sequencer = s.sequencer := rfl
@[simp] theorem emptySlots_lines (s : State) : (emptySlots s).lines = s.lines := rfl
@[simp] theorem emptySlots_holdQueue (s : State) : (emptySlots s).holdQueue = s.holdQueue := rfl
@[simp] theorem emptySlots_release (s : State) : (emptySlots s).release = s.release := rfl
@[simp] theorem emptySlots_status (s : State) : (emptySlots s).status = s.status := rfl
@[simp] theorem emptySlots_timeBase (s : State) : (emptySlots s).timeBase = s.timeBase := rfl
@[simp] theorem emptySlots_pending (s : State) : (emptySlots s).pending = s.pending := rfl
@[simp] theorem line_emptySlots (s : State) (r : Pair) : line (emptySlots s) r = line s r := rfl
@[simp] theorem config_emptySlots (s : State) : config (emptySlots s) = config s := rfl
@[simp] theorem isActive_emptySlots (s : State) : isActive (emptySlots s) = isActive s := rfl

@[simp] theorem blockEnded_group (s : State) : (blockEnded s).group = s.group := rfl
@[simp] theorem blockEnded_sequencer (s : State) : (blockEnded s).sequencer = s.sequencer := rfl
@[simp] theorem blockEnded_lines (s : State) : (blockEnded s).lines = s.lines := rfl
@[simp] theorem blockEnded_holdQueue (s : State) : (blockEnded s).holdQueue = s.holdQueue := rfl
@[simp] theorem blockEnded_release (s : State) : (blockEnded s).release = s.release := rfl
@[simp] theorem blockEnded_status (s : State) : (blockEnded s).status = s.status := rfl
@[simp] theorem blockEnded_timeBase (s : State) : (blockEnded s).timeBase = s.timeBase := rfl
@[simp] theorem blockEnded_pending (s : State) : (blockEnded s).pending = s.pending := rfl
@[simp] theorem line_blockEnded (s : State) (r : Pair) : line (blockEnded s) r = line s r := rfl
@[simp] theorem config_blockEnded (s : State) : config (blockEnded s) = config s := rfl
@[simp] theorem isActive_blockEnded (s : State) : isActive (blockEnded s) = isActive s := rfl

@[simp] theorem sequencerIdle_port (s : State) : (sequencerIdle s).port = s.port := rfl
@[simp] theorem sequencerIdle_group (s : State) : (sequencerIdle s).group = s.group := rfl
@[simp] theorem sequencerIdle_lines (s : State) : (sequencerIdle s).lines = s.lines := rfl
@[simp] theorem sequencerIdle_holdQueue (s : State) : (sequencerIdle s).holdQueue = s.holdQueue := rfl
@[simp] theorem sequencerIdle_release (s : State) : (sequencerIdle s).release = s.release := rfl
@[simp] theorem sequencerIdle_status (s : State) : (sequencerIdle s).status = s.status := rfl
@[simp] theorem sequencerIdle_timeBase (s : State) : (sequencerIdle s).timeBase = s.timeBase := rfl
@[simp] theorem sequencerIdle_pending (s : State) : (sequencerIdle s).pending = s.pending := rfl
@[simp] theorem line_sequencerIdle (s : State) (r : Pair) : line (sequencerIdle s) r = line s r := rfl
@[simp] theorem config_sequencerIdle (s : State) : config (sequencerIdle s) = config s := rfl
@[simp] theorem isActive_sequencerIdle (s : State) : isActive (sequencerIdle s) = isActive s := rfl

@[simp] theorem slotClosed_group (s : State) : (slotClosed s).group = s.group := rfl
@[simp] theorem slotClosed_lines (s : State) : (slotClosed s).lines = s.lines := rfl
@[simp] theorem slotClosed_holdQueue (s : State) : (slotClosed s).holdQueue = s.holdQueue := rfl
@[simp] theorem slotClosed_release (s : State) : (slotClosed s).release = s.release := rfl
@[simp] theorem slotClosed_status (s : State) : (slotClosed s).status = s.status := rfl
@[simp] theorem slotClosed_timeBase (s : State) : (slotClosed s).timeBase = s.timeBase := rfl
@[simp] theorem slotClosed_pending (s : State) : (slotClosed s).pending = s.pending := rfl
@[simp] theorem line_slotClosed (s : State) (r : Pair) : line (slotClosed s) r = line s r := rfl
@[simp] theorem config_slotClosed (s : State) : config (slotClosed s) = config s := rfl
@[simp] theorem isActive_slotClosed (s : State) : isActive (slotClosed s) = isActive s := rfl

@[simp] theorem removeEntry_port (q : Seq) (s : State) : (removeEntry q s).port = s.port := rfl
@[simp] theorem removeEntry_group (q : Seq) (s : State) : (removeEntry q s).group = s.group := rfl
@[simp] theorem removeEntry_sequencer (q : Seq) (s : State) : (removeEntry q s).sequencer = s.sequencer := rfl
@[simp] theorem removeEntry_lines (q : Seq) (s : State) : (removeEntry q s).lines = s.lines := rfl
@[simp] theorem removeEntry_release (q : Seq) (s : State) : (removeEntry q s).release = s.release := rfl
@[simp] theorem removeEntry_status (q : Seq) (s : State) : (removeEntry q s).status = s.status := rfl
@[simp] theorem removeEntry_timeBase (q : Seq) (s : State) : (removeEntry q s).timeBase = s.timeBase := rfl
@[simp] theorem removeEntry_pending (q : Seq) (s : State) : (removeEntry q s).pending = s.pending := rfl
@[simp] theorem line_removeEntry (q : Seq) (s : State) (r : Pair) : line (removeEntry q s) r = line s r := rfl
@[simp] theorem config_removeEntry (q : Seq) (s : State) : config (removeEntry q s) = config s := rfl
@[simp] theorem isActive_removeEntry (q : Seq) (s : State) : isActive (removeEntry q s) = isActive s := rfl

@[simp] theorem setE_port (q : Seq) (broken : Bool) (s : State) : (setE q broken s).port = s.port := rfl
@[simp] theorem setE_group (q : Seq) (broken : Bool) (s : State) : (setE q broken s).group = s.group := rfl
@[simp] theorem setE_sequencer (q : Seq) (broken : Bool) (s : State) : (setE q broken s).sequencer = s.sequencer := rfl
@[simp] theorem setE_lines (q : Seq) (broken : Bool) (s : State) : (setE q broken s).lines = s.lines := rfl
@[simp] theorem setE_holdQueue (q : Seq) (broken : Bool) (s : State) : (setE q broken s).holdQueue = s.holdQueue := rfl
@[simp] theorem setE_status (q : Seq) (broken : Bool) (s : State) : (setE q broken s).status = s.status := rfl
@[simp] theorem setE_timeBase (q : Seq) (broken : Bool) (s : State) : (setE q broken s).timeBase = s.timeBase := rfl
@[simp] theorem setE_pending (q : Seq) (broken : Bool) (s : State) : (setE q broken s).pending = s.pending := rfl
@[simp] theorem line_setE (q : Seq) (broken : Bool) (s : State) (r : Pair) : line (setE q broken s) r = line s r := rfl
@[simp] theorem config_setE (q : Seq) (broken : Bool) (s : State) : config (setE q broken s) = config s := rfl
@[simp] theorem isActive_setE (q : Seq) (broken : Bool) (s : State) : isActive (setE q broken s) = isActive s := rfl

@[simp] theorem latchOffer_group (o : LatchedOffer) (s : State) : (latchOffer o s).group = s.group := rfl
@[simp] theorem latchOffer_sequencer (o : LatchedOffer) (s : State) : (latchOffer o s).sequencer = s.sequencer := rfl
@[simp] theorem latchOffer_lines (o : LatchedOffer) (s : State) : (latchOffer o s).lines = s.lines := rfl
@[simp] theorem latchOffer_holdQueue (o : LatchedOffer) (s : State) : (latchOffer o s).holdQueue = s.holdQueue := rfl
@[simp] theorem latchOffer_release (o : LatchedOffer) (s : State) : (latchOffer o s).release = s.release := rfl
@[simp] theorem latchOffer_status (o : LatchedOffer) (s : State) : (latchOffer o s).status = s.status := rfl
@[simp] theorem latchOffer_timeBase (o : LatchedOffer) (s : State) : (latchOffer o s).timeBase = s.timeBase := rfl
@[simp] theorem latchOffer_pending (o : LatchedOffer) (s : State) : (latchOffer o s).pending = s.pending := rfl
@[simp] theorem line_latchOffer (o : LatchedOffer) (s : State) (r : Pair) : line (latchOffer o s) r = line s r := rfl
@[simp] theorem config_latchOffer (o : LatchedOffer) (s : State) : config (latchOffer o s) = config s := rfl
@[simp] theorem isActive_latchOffer (o : LatchedOffer) (s : State) : isActive (latchOffer o s) = isActive s := rfl

@[simp] theorem setJudged_port (ph : ClaimPhase) (v : OfferVerdict) (b : Option Bidding) (s : State) : (setJudged ph v b s).port = s.port := rfl
@[simp] theorem setJudged_group (ph : ClaimPhase) (v : OfferVerdict) (b : Option Bidding) (s : State) : (setJudged ph v b s).group = s.group := rfl
@[simp] theorem setJudged_lines (ph : ClaimPhase) (v : OfferVerdict) (b : Option Bidding) (s : State) : (setJudged ph v b s).lines = s.lines := rfl
@[simp] theorem setJudged_holdQueue (ph : ClaimPhase) (v : OfferVerdict) (b : Option Bidding) (s : State) : (setJudged ph v b s).holdQueue = s.holdQueue := rfl
@[simp] theorem setJudged_release (ph : ClaimPhase) (v : OfferVerdict) (b : Option Bidding) (s : State) : (setJudged ph v b s).release = s.release := rfl
@[simp] theorem setJudged_status (ph : ClaimPhase) (v : OfferVerdict) (b : Option Bidding) (s : State) : (setJudged ph v b s).status = s.status := rfl
@[simp] theorem setJudged_timeBase (ph : ClaimPhase) (v : OfferVerdict) (b : Option Bidding) (s : State) : (setJudged ph v b s).timeBase = s.timeBase := rfl
@[simp] theorem setJudged_pending (ph : ClaimPhase) (v : OfferVerdict) (b : Option Bidding) (s : State) : (setJudged ph v b s).pending = s.pending := rfl
@[simp] theorem line_setJudged (ph : ClaimPhase) (v : OfferVerdict) (b : Option Bidding) (s : State) (r : Pair) : line (setJudged ph v b s) r = line s r := rfl
@[simp] theorem config_setJudged (ph : ClaimPhase) (v : OfferVerdict) (b : Option Bidding) (s : State) : config (setJudged ph v b s) = config s := rfl
@[simp] theorem isActive_setJudged (ph : ClaimPhase) (v : OfferVerdict) (b : Option Bidding) (s : State) : isActive (setJudged ph v b s) = isActive s := rfl

@[simp] theorem storeEntry_port (e : Seq) (x : HoldEntry) (s : State) : (storeEntry e x s).port = s.port := rfl
@[simp] theorem storeEntry_group (e : Seq) (x : HoldEntry) (s : State) : (storeEntry e x s).group = s.group := rfl
@[simp] theorem storeEntry_sequencer (e : Seq) (x : HoldEntry) (s : State) : (storeEntry e x s).sequencer = s.sequencer := rfl
@[simp] theorem storeEntry_lines (e : Seq) (x : HoldEntry) (s : State) : (storeEntry e x s).lines = s.lines := rfl
@[simp] theorem storeEntry_release (e : Seq) (x : HoldEntry) (s : State) : (storeEntry e x s).release = s.release := rfl
@[simp] theorem storeEntry_timeBase (e : Seq) (x : HoldEntry) (s : State) : (storeEntry e x s).timeBase = s.timeBase := rfl
@[simp] theorem storeEntry_pending (e : Seq) (x : HoldEntry) (s : State) : (storeEntry e x s).pending = s.pending := rfl
@[simp] theorem line_storeEntry (e : Seq) (x : HoldEntry) (s : State) (r : Pair) : line (storeEntry e x s) r = line s r := rfl
@[simp] theorem config_storeEntry (e : Seq) (x : HoldEntry) (s : State) : config (storeEntry e x s) = config s := rfl
@[simp] theorem isActive_storeEntry (e : Seq) (x : HoldEntry) (s : State) : isActive (storeEntry e x s) = isActive s := rfl

@[simp] theorem modJoin_port (f : JoinValues → JoinValues) (s : State) : (modJoin f s).port = s.port := rfl
@[simp] theorem modJoin_sequencer (f : JoinValues → JoinValues) (s : State) : (modJoin f s).sequencer = s.sequencer := rfl
@[simp] theorem modJoin_lines (f : JoinValues → JoinValues) (s : State) : (modJoin f s).lines = s.lines := rfl
@[simp] theorem modJoin_holdQueue (f : JoinValues → JoinValues) (s : State) : (modJoin f s).holdQueue = s.holdQueue := rfl
@[simp] theorem modJoin_release (f : JoinValues → JoinValues) (s : State) : (modJoin f s).release = s.release := rfl
@[simp] theorem modJoin_status (f : JoinValues → JoinValues) (s : State) : (modJoin f s).status = s.status := rfl
@[simp] theorem modJoin_timeBase (f : JoinValues → JoinValues) (s : State) : (modJoin f s).timeBase = s.timeBase := rfl
@[simp] theorem modJoin_pending (f : JoinValues → JoinValues) (s : State) : (modJoin f s).pending = s.pending := rfl
@[simp] theorem line_modJoin (f : JoinValues → JoinValues) (s : State) (r : Pair) : line (modJoin f s) r = line s r := rfl

@[simp] theorem enterListening_port (d : Listening) (s : State) : (enterListening d s).port = s.port := rfl
@[simp] theorem enterListening_sequencer (d : Listening) (s : State) : (enterListening d s).sequencer = s.sequencer := rfl
@[simp] theorem enterListening_lines (d : Listening) (s : State) : (enterListening d s).lines = s.lines := rfl
@[simp] theorem enterListening_holdQueue (d : Listening) (s : State) : (enterListening d s).holdQueue = s.holdQueue := rfl
@[simp] theorem enterListening_release (d : Listening) (s : State) : (enterListening d s).release = s.release := rfl
@[simp] theorem enterListening_status (d : Listening) (s : State) : (enterListening d s).status = s.status := rfl
@[simp] theorem enterListening_timeBase (d : Listening) (s : State) : (enterListening d s).timeBase = s.timeBase := rfl
@[simp] theorem enterListening_pending (d : Listening) (s : State) : (enterListening d s).pending = s.pending := rfl
@[simp] theorem line_enterListening (d : Listening) (s : State) (r : Pair) : line (enterListening d s) r = line s r := rfl

@[simp] theorem startFrame_port (p : Pair) (c : TxContent) (r : Nat) (s : State) : (startFrame p c r s).port = s.port := rfl
@[simp] theorem startFrame_group (p : Pair) (c : TxContent) (r : Nat) (s : State) : (startFrame p c r s).group = s.group := rfl
@[simp] theorem startFrame_sequencer (p : Pair) (c : TxContent) (r : Nat) (s : State) : (startFrame p c r s).sequencer = s.sequencer := rfl
@[simp] theorem startFrame_holdQueue (p : Pair) (c : TxContent) (r : Nat) (s : State) : (startFrame p c r s).holdQueue = s.holdQueue := rfl
@[simp] theorem startFrame_release (p : Pair) (c : TxContent) (r : Nat) (s : State) : (startFrame p c r s).release = s.release := rfl
@[simp] theorem startFrame_status (p : Pair) (c : TxContent) (r : Nat) (s : State) : (startFrame p c r s).status = s.status := rfl
@[simp] theorem startFrame_timeBase (p : Pair) (c : TxContent) (r : Nat) (s : State) : (startFrame p c r s).timeBase = s.timeBase := rfl
@[simp] theorem startFrame_pending (p : Pair) (c : TxContent) (r : Nat) (s : State) : (startFrame p c r s).pending = s.pending := rfl
@[simp] theorem config_startFrame (p : Pair) (c : TxContent) (r : Nat) (s : State) : config (startFrame p c r s) = config s := rfl
@[simp] theorem isActive_startFrame (p : Pair) (c : TxContent) (r : Nat) (s : State) : isActive (startFrame p c r s) = isActive s := rfl

@[simp] theorem clockOn_port (s : State) : (clockOn s).port = s.port := rfl
@[simp] theorem clockOn_sequencer (s : State) : (clockOn s).sequencer = s.sequencer := rfl
@[simp] theorem clockOn_holdQueue (s : State) : (clockOn s).holdQueue = s.holdQueue := rfl
@[simp] theorem clockOn_status (s : State) : (clockOn s).status = s.status := rfl
@[simp] theorem clockOn_pending (s : State) : (clockOn s).pending = s.pending := rfl
@[simp] theorem line_clockOn (s : State) (p : Pair) : line (clockOn s) p = tickLine (line s p) := quadGet_quadOf _ p

/-! ### Fields of a line unit an update leaves as they were -/

@[simp] theorem txStart_state (c : TxContent) (r : Nat) (u : LineUnit) : (txStart c r u).state = u.state := rfl
@[simp] theorem txStart_k (c : TxContent) (r : Nat) (u : LineUnit) : (txStart c r u).k = u.k := rfl
@[simp] theorem txStart_holdOff (c : TxContent) (r : Nat) (u : LineUnit) : (txStart c r u).holdOff = u.holdOff := rfl
@[simp] theorem txStart_monitor (c : TxContent) (r : Nat) (u : LineUnit) : (txStart c r u).monitor = u.monitor := rfl
@[simp] theorem txStart_lit (c : TxContent) (r : Nat) (u : LineUnit) : (txStart c r u).lit = u.lit := rfl
@[simp] theorem txStart_litCount (c : TxContent) (r : Nat) (u : LineUnit) : (txStart c r u).litCount = u.litCount := rfl
@[simp] theorem txStart_unlitCount (c : TxContent) (r : Nat) (u : LineUnit) : (txStart c r u).unlitCount = u.unlitCount := rfl
@[simp] theorem txStart_detect (c : TxContent) (r : Nat) (u : LineUnit) : (txStart c r u).detect = u.detect := rfl
@[simp] theorem txStart_training (c : TxContent) (r : Nat) (u : LineUnit) : (txStart c r u).training = u.training := rfl
@[simp] theorem txStart_qualification (c : TxContent) (r : Nat) (u : LineUnit) : (txStart c r u).qualification = u.qualification := rfl
@[simp] theorem txStart_farParams (c : TxContent) (r : Nat) (u : LineUnit) : (txStart c r u).farParams = u.farParams := rfl
@[simp] theorem txStart_train (c : TxContent) (r : Nat) (u : LineUnit) : (txStart c r u).train = u.train := rfl
@[simp] theorem txStart_trainedSend (c : TxContent) (r : Nat) (u : LineUnit) : (txStart c r u).trainedSend = u.trainedSend := rfl
@[simp] theorem txStart_trainedRecv (c : TxContent) (r : Nat) (u : LineUnit) : (txStart c r u).trainedRecv = u.trainedRecv := rfl
@[simp] theorem txStart_delay (c : TxContent) (r : Nat) (u : LineUnit) : (txStart c r u).delay = u.delay := rfl
@[simp] theorem txStart_farCeiling (c : TxContent) (r : Nat) (u : LineUnit) : (txStart c r u).farCeiling = u.farCeiling := rfl
@[simp] theorem txStart_qualify (c : TxContent) (r : Nat) (u : LineUnit) : (txStart c r u).qualify = u.qualify := rfl
@[simp] theorem txStart_serviceClock (c : TxContent) (r : Nat) (u : LineUnit) : (txStart c r u).serviceClock = u.serviceClock := rfl
@[simp] theorem txStart_los (c : TxContent) (r : Nat) (u : LineUnit) : (txStart c r u).los = u.los := rfl
@[simp] theorem txStart_sendRate (c : TxContent) (r : Nat) (u : LineUnit) : (txStart c r u).sendRate = u.sendRate := rfl
@[simp] theorem txStart_recvRate (c : TxContent) (r : Nat) (u : LineUnit) : (txStart c r u).recvRate = u.recvRate := rfl
@[simp] theorem txStart_margin (c : TxContent) (r : Nat) (u : LineUnit) : (txStart c r u).margin = u.margin := rfl
@[simp] theorem txStart_svc (c : TxContent) (r : Nat) (u : LineUnit) : (txStart c r u).svc = u.svc := rfl
@[simp] theorem txStart_queue (c : TxContent) (r : Nat) (u : LineUnit) : (txStart c r u).queue = u.queue := rfl
@[simp] theorem txStart_ctl (c : TxContent) (r : Nat) (u : LineUnit) : (txStart c r u).ctl = u.ctl := rfl
@[simp] theorem txStart_rxExpected (c : TxContent) (r : Nat) (u : LineUnit) : (txStart c r u).rxExpected = u.rxExpected := rfl
@[simp] theorem txStart_lastReceived (c : TxContent) (r : Nat) (u : LineUnit) : (txStart c r u).lastReceived = u.lastReceived := rfl

@[simp] theorem stopWork_state (u : LineUnit) : (stopWork u).state = u.state := rfl
@[simp] theorem stopWork_k (u : LineUnit) : (stopWork u).k = u.k := rfl
@[simp] theorem stopWork_litCount (u : LineUnit) : (stopWork u).litCount = u.litCount := rfl
@[simp] theorem stopWork_unlitCount (u : LineUnit) : (stopWork u).unlitCount = u.unlitCount := rfl
@[simp] theorem stopWork_farParams (u : LineUnit) : (stopWork u).farParams = u.farParams := rfl
@[simp] theorem stopWork_trainedSend (u : LineUnit) : (stopWork u).trainedSend = u.trainedSend := rfl
@[simp] theorem stopWork_trainedRecv (u : LineUnit) : (stopWork u).trainedRecv = u.trainedRecv := rfl
@[simp] theorem stopWork_delay (u : LineUnit) : (stopWork u).delay = u.delay := rfl
@[simp] theorem stopWork_farCeiling (u : LineUnit) : (stopWork u).farCeiling = u.farCeiling := rfl
@[simp] theorem stopWork_los (u : LineUnit) : (stopWork u).los = u.los := rfl
@[simp] theorem stopWork_sendRate (u : LineUnit) : (stopWork u).sendRate = u.sendRate := rfl
@[simp] theorem stopWork_recvRate (u : LineUnit) : (stopWork u).recvRate = u.recvRate := rfl
@[simp] theorem stopWork_margin (u : LineUnit) : (stopWork u).margin = u.margin := rfl
@[simp] theorem stopWork_queue (u : LineUnit) : (stopWork u).queue = u.queue := rfl
@[simp] theorem stopWork_txCount (u : LineUnit) : (stopWork u).txCount = u.txCount := rfl
@[simp] theorem stopWork_rxExpected (u : LineUnit) : (stopWork u).rxExpected = u.rxExpected := rfl
@[simp] theorem stopWork_lastReceived (u : LineUnit) : (stopWork u).lastReceived = u.lastReceived := rfl

@[simp] theorem raiseK_state (u : LineUnit) : (raiseK u).state = u.state := rfl
@[simp] theorem raiseK_holdOff (u : LineUnit) : (raiseK u).holdOff = u.holdOff := rfl
@[simp] theorem raiseK_monitor (u : LineUnit) : (raiseK u).monitor = u.monitor := rfl
@[simp] theorem raiseK_lit (u : LineUnit) : (raiseK u).lit = u.lit := rfl
@[simp] theorem raiseK_litCount (u : LineUnit) : (raiseK u).litCount = u.litCount := rfl
@[simp] theorem raiseK_unlitCount (u : LineUnit) : (raiseK u).unlitCount = u.unlitCount := rfl
@[simp] theorem raiseK_detect (u : LineUnit) : (raiseK u).detect = u.detect := rfl
@[simp] theorem raiseK_training (u : LineUnit) : (raiseK u).training = u.training := rfl
@[simp] theorem raiseK_qualification (u : LineUnit) : (raiseK u).qualification = u.qualification := rfl
@[simp] theorem raiseK_farParams (u : LineUnit) : (raiseK u).farParams = u.farParams := rfl
@[simp] theorem raiseK_train (u : LineUnit) : (raiseK u).train = u.train := rfl
@[simp] theorem raiseK_trainedSend (u : LineUnit) : (raiseK u).trainedSend = u.trainedSend := rfl
@[simp] theorem raiseK_trainedRecv (u : LineUnit) : (raiseK u).trainedRecv = u.trainedRecv := rfl
@[simp] theorem raiseK_delay (u : LineUnit) : (raiseK u).delay = u.delay := rfl
@[simp] theorem raiseK_farCeiling (u : LineUnit) : (raiseK u).farCeiling = u.farCeiling := rfl
@[simp] theorem raiseK_qualify (u : LineUnit) : (raiseK u).qualify = u.qualify := rfl
@[simp] theorem raiseK_serviceClock (u : LineUnit) : (raiseK u).serviceClock = u.serviceClock := rfl
@[simp] theorem raiseK_los (u : LineUnit) : (raiseK u).los = u.los := rfl
@[simp] theorem raiseK_sendRate (u : LineUnit) : (raiseK u).sendRate = u.sendRate := rfl
@[simp] theorem raiseK_recvRate (u : LineUnit) : (raiseK u).recvRate = u.recvRate := rfl
@[simp] theorem raiseK_margin (u : LineUnit) : (raiseK u).margin = u.margin := rfl
@[simp] theorem raiseK_svc (u : LineUnit) : (raiseK u).svc = u.svc := rfl
@[simp] theorem raiseK_queue (u : LineUnit) : (raiseK u).queue = u.queue := rfl
@[simp] theorem raiseK_ctl (u : LineUnit) : (raiseK u).ctl = u.ctl := rfl
@[simp] theorem raiseK_tx (u : LineUnit) : (raiseK u).tx = u.tx := rfl
@[simp] theorem raiseK_txCount (u : LineUnit) : (raiseK u).txCount = u.txCount := rfl
@[simp] theorem raiseK_rxExpected (u : LineUnit) : (raiseK u).rxExpected = u.rxExpected := rfl
@[simp] theorem raiseK_lastReceived (u : LineUnit) : (raiseK u).lastReceived = u.lastReceived := rfl

@[simp] theorem enterQuiet_k (s : State) (u : LineUnit) : (enterQuiet s u).k = u.k := rfl
@[simp] theorem enterQuiet_monitor (s : State) (u : LineUnit) : (enterQuiet s u).monitor = u.monitor := rfl
@[simp] theorem enterQuiet_lit (s : State) (u : LineUnit) : (enterQuiet s u).lit = u.lit := rfl
@[simp] theorem enterQuiet_litCount (s : State) (u : LineUnit) : (enterQuiet s u).litCount = u.litCount := rfl
@[simp] theorem enterQuiet_unlitCount (s : State) (u : LineUnit) : (enterQuiet s u).unlitCount = u.unlitCount := rfl
@[simp] theorem enterQuiet_detect (s : State) (u : LineUnit) : (enterQuiet s u).detect = u.detect := rfl
@[simp] theorem enterQuiet_training (s : State) (u : LineUnit) : (enterQuiet s u).training = u.training := rfl
@[simp] theorem enterQuiet_qualification (s : State) (u : LineUnit) : (enterQuiet s u).qualification = u.qualification := rfl
@[simp] theorem enterQuiet_farParams (s : State) (u : LineUnit) : (enterQuiet s u).farParams = u.farParams := rfl
@[simp] theorem enterQuiet_train (s : State) (u : LineUnit) : (enterQuiet s u).train = u.train := rfl
@[simp] theorem enterQuiet_trainedSend (s : State) (u : LineUnit) : (enterQuiet s u).trainedSend = u.trainedSend := rfl
@[simp] theorem enterQuiet_trainedRecv (s : State) (u : LineUnit) : (enterQuiet s u).trainedRecv = u.trainedRecv := rfl
@[simp] theorem enterQuiet_delay (s : State) (u : LineUnit) : (enterQuiet s u).delay = u.delay := rfl
@[simp] theorem enterQuiet_farCeiling (s : State) (u : LineUnit) : (enterQuiet s u).farCeiling = u.farCeiling := rfl
@[simp] theorem enterQuiet_qualify (s : State) (u : LineUnit) : (enterQuiet s u).qualify = u.qualify := rfl
@[simp] theorem enterQuiet_serviceClock (s : State) (u : LineUnit) : (enterQuiet s u).serviceClock = u.serviceClock := rfl
@[simp] theorem enterQuiet_los (s : State) (u : LineUnit) : (enterQuiet s u).los = u.los := rfl
@[simp] theorem enterQuiet_sendRate (s : State) (u : LineUnit) : (enterQuiet s u).sendRate = u.sendRate := rfl
@[simp] theorem enterQuiet_recvRate (s : State) (u : LineUnit) : (enterQuiet s u).recvRate = u.recvRate := rfl
@[simp] theorem enterQuiet_margin (s : State) (u : LineUnit) : (enterQuiet s u).margin = u.margin := rfl
@[simp] theorem enterQuiet_svc (s : State) (u : LineUnit) : (enterQuiet s u).svc = u.svc := rfl
@[simp] theorem enterQuiet_queue (s : State) (u : LineUnit) : (enterQuiet s u).queue = u.queue := rfl
@[simp] theorem enterQuiet_ctl (s : State) (u : LineUnit) : (enterQuiet s u).ctl = u.ctl := rfl
@[simp] theorem enterQuiet_tx (s : State) (u : LineUnit) : (enterQuiet s u).tx = u.tx := rfl
@[simp] theorem enterQuiet_txCount (s : State) (u : LineUnit) : (enterQuiet s u).txCount = u.txCount := rfl
@[simp] theorem enterQuiet_rxExpected (s : State) (u : LineUnit) : (enterQuiet s u).rxExpected = u.rxExpected := rfl
@[simp] theorem enterQuiet_lastReceived (s : State) (u : LineUnit) : (enterQuiet s u).lastReceived = u.lastReceived := rfl

@[simp] theorem enterTrainLine_k (s : State) (u : LineUnit) : (enterTrainLine s u).k = u.k := rfl
@[simp] theorem enterTrainLine_holdOff (s : State) (u : LineUnit) : (enterTrainLine s u).holdOff = u.holdOff := rfl
@[simp] theorem enterTrainLine_litCount (s : State) (u : LineUnit) : (enterTrainLine s u).litCount = u.litCount := rfl
@[simp] theorem enterTrainLine_unlitCount (s : State) (u : LineUnit) : (enterTrainLine s u).unlitCount = u.unlitCount := rfl
@[simp] theorem enterTrainLine_qualification (s : State) (u : LineUnit) : (enterTrainLine s u).qualification = u.qualification := rfl
@[simp] theorem enterTrainLine_qualify (s : State) (u : LineUnit) : (enterTrainLine s u).qualify = u.qualify := rfl
@[simp] theorem enterTrainLine_serviceClock (s : State) (u : LineUnit) : (enterTrainLine s u).serviceClock = u.serviceClock := rfl
@[simp] theorem enterTrainLine_los (s : State) (u : LineUnit) : (enterTrainLine s u).los = u.los := rfl
@[simp] theorem enterTrainLine_sendRate (s : State) (u : LineUnit) : (enterTrainLine s u).sendRate = u.sendRate := rfl
@[simp] theorem enterTrainLine_recvRate (s : State) (u : LineUnit) : (enterTrainLine s u).recvRate = u.recvRate := rfl
@[simp] theorem enterTrainLine_margin (s : State) (u : LineUnit) : (enterTrainLine s u).margin = u.margin := rfl
@[simp] theorem enterTrainLine_svc (s : State) (u : LineUnit) : (enterTrainLine s u).svc = u.svc := rfl
@[simp] theorem enterTrainLine_queue (s : State) (u : LineUnit) : (enterTrainLine s u).queue = u.queue := rfl
@[simp] theorem enterTrainLine_ctl (s : State) (u : LineUnit) : (enterTrainLine s u).ctl = u.ctl := rfl
@[simp] theorem enterTrainLine_tx (s : State) (u : LineUnit) : (enterTrainLine s u).tx = u.tx := rfl
@[simp] theorem enterTrainLine_txCount (s : State) (u : LineUnit) : (enterTrainLine s u).txCount = u.txCount := rfl
@[simp] theorem enterTrainLine_rxExpected (s : State) (u : LineUnit) : (enterTrainLine s u).rxExpected = u.rxExpected := rfl
@[simp] theorem enterTrainLine_lastReceived (s : State) (u : LineUnit) : (enterTrainLine s u).lastReceived = u.lastReceived := rfl

@[simp] theorem enterQualifyLine_k (u : LineUnit) : (enterQualifyLine u).k = u.k := rfl
@[simp] theorem enterQualifyLine_holdOff (u : LineUnit) : (enterQualifyLine u).holdOff = u.holdOff := rfl
@[simp] theorem enterQualifyLine_monitor (u : LineUnit) : (enterQualifyLine u).monitor = u.monitor := rfl
@[simp] theorem enterQualifyLine_lit (u : LineUnit) : (enterQualifyLine u).lit = u.lit := rfl
@[simp] theorem enterQualifyLine_litCount (u : LineUnit) : (enterQualifyLine u).litCount = u.litCount := rfl
@[simp] theorem enterQualifyLine_unlitCount (u : LineUnit) : (enterQualifyLine u).unlitCount = u.unlitCount := rfl
@[simp] theorem enterQualifyLine_detect (u : LineUnit) : (enterQualifyLine u).detect = u.detect := rfl
@[simp] theorem enterQualifyLine_farParams (u : LineUnit) : (enterQualifyLine u).farParams = u.farParams := rfl
@[simp] theorem enterQualifyLine_trainedSend (u : LineUnit) : (enterQualifyLine u).trainedSend = u.trainedSend := rfl
@[simp] theorem enterQualifyLine_trainedRecv (u : LineUnit) : (enterQualifyLine u).trainedRecv = u.trainedRecv := rfl
@[simp] theorem enterQualifyLine_delay (u : LineUnit) : (enterQualifyLine u).delay = u.delay := rfl
@[simp] theorem enterQualifyLine_farCeiling (u : LineUnit) : (enterQualifyLine u).farCeiling = u.farCeiling := rfl
@[simp] theorem enterQualifyLine_serviceClock (u : LineUnit) : (enterQualifyLine u).serviceClock = u.serviceClock := rfl
@[simp] theorem enterQualifyLine_los (u : LineUnit) : (enterQualifyLine u).los = u.los := rfl
@[simp] theorem enterQualifyLine_sendRate (u : LineUnit) : (enterQualifyLine u).sendRate = u.sendRate := rfl
@[simp] theorem enterQualifyLine_recvRate (u : LineUnit) : (enterQualifyLine u).recvRate = u.recvRate := rfl
@[simp] theorem enterQualifyLine_margin (u : LineUnit) : (enterQualifyLine u).margin = u.margin := rfl
@[simp] theorem enterQualifyLine_svc (u : LineUnit) : (enterQualifyLine u).svc = u.svc := rfl
@[simp] theorem enterQualifyLine_queue (u : LineUnit) : (enterQualifyLine u).queue = u.queue := rfl
@[simp] theorem enterQualifyLine_ctl (u : LineUnit) : (enterQualifyLine u).ctl = u.ctl := rfl
@[simp] theorem enterQualifyLine_tx (u : LineUnit) : (enterQualifyLine u).tx = u.tx := rfl
@[simp] theorem enterQualifyLine_txCount (u : LineUnit) : (enterQualifyLine u).txCount = u.txCount := rfl
@[simp] theorem enterQualifyLine_rxExpected (u : LineUnit) : (enterQualifyLine u).rxExpected = u.rxExpected := rfl
@[simp] theorem enterQualifyLine_lastReceived (u : LineUnit) : (enterQualifyLine u).lastReceived = u.lastReceived := rfl

@[simp] theorem enterServiceLine_k (m : BitVec 6) (s : State) (u : LineUnit) : (enterServiceLine m s u).k = u.k := rfl
@[simp] theorem enterServiceLine_holdOff (m : BitVec 6) (s : State) (u : LineUnit) : (enterServiceLine m s u).holdOff = u.holdOff := rfl
@[simp] theorem enterServiceLine_lit (m : BitVec 6) (s : State) (u : LineUnit) : (enterServiceLine m s u).lit = u.lit := rfl
@[simp] theorem enterServiceLine_litCount (m : BitVec 6) (s : State) (u : LineUnit) : (enterServiceLine m s u).litCount = u.litCount := rfl
@[simp] theorem enterServiceLine_unlitCount (m : BitVec 6) (s : State) (u : LineUnit) : (enterServiceLine m s u).unlitCount = u.unlitCount := rfl
@[simp] theorem enterServiceLine_detect (m : BitVec 6) (s : State) (u : LineUnit) : (enterServiceLine m s u).detect = u.detect := rfl
@[simp] theorem enterServiceLine_training (m : BitVec 6) (s : State) (u : LineUnit) : (enterServiceLine m s u).training = u.training := rfl
@[simp] theorem enterServiceLine_farParams (m : BitVec 6) (s : State) (u : LineUnit) : (enterServiceLine m s u).farParams = u.farParams := rfl
@[simp] theorem enterServiceLine_train (m : BitVec 6) (s : State) (u : LineUnit) : (enterServiceLine m s u).train = u.train := rfl
@[simp] theorem enterServiceLine_trainedSend (m : BitVec 6) (s : State) (u : LineUnit) : (enterServiceLine m s u).trainedSend = u.trainedSend := rfl
@[simp] theorem enterServiceLine_trainedRecv (m : BitVec 6) (s : State) (u : LineUnit) : (enterServiceLine m s u).trainedRecv = u.trainedRecv := rfl
@[simp] theorem enterServiceLine_delay (m : BitVec 6) (s : State) (u : LineUnit) : (enterServiceLine m s u).delay = u.delay := rfl
@[simp] theorem enterServiceLine_farCeiling (m : BitVec 6) (s : State) (u : LineUnit) : (enterServiceLine m s u).farCeiling = u.farCeiling := rfl
@[simp] theorem enterServiceLine_qualify (m : BitVec 6) (s : State) (u : LineUnit) : (enterServiceLine m s u).qualify = u.qualify := rfl
@[simp] theorem enterServiceLine_queue (m : BitVec 6) (s : State) (u : LineUnit) : (enterServiceLine m s u).queue = u.queue := rfl
@[simp] theorem enterServiceLine_ctl (m : BitVec 6) (s : State) (u : LineUnit) : (enterServiceLine m s u).ctl = u.ctl := rfl
@[simp] theorem enterServiceLine_tx (m : BitVec 6) (s : State) (u : LineUnit) : (enterServiceLine m s u).tx = u.tx := rfl
@[simp] theorem enterServiceLine_txCount (m : BitVec 6) (s : State) (u : LineUnit) : (enterServiceLine m s u).txCount = u.txCount := rfl
@[simp] theorem enterServiceLine_rxExpected (m : BitVec 6) (s : State) (u : LineUnit) : (enterServiceLine m s u).rxExpected = u.rxExpected := rfl

@[simp] theorem beginSearch_state (u : LineUnit) : (beginSearch u).state = u.state := rfl
@[simp] theorem beginSearch_k (u : LineUnit) : (beginSearch u).k = u.k := rfl
@[simp] theorem beginSearch_holdOff (u : LineUnit) : (beginSearch u).holdOff = u.holdOff := rfl
@[simp] theorem beginSearch_monitor (u : LineUnit) : (beginSearch u).monitor = u.monitor := rfl
@[simp] theorem beginSearch_lit (u : LineUnit) : (beginSearch u).lit = u.lit := rfl
@[simp] theorem beginSearch_litCount (u : LineUnit) : (beginSearch u).litCount = u.litCount := rfl
@[simp] theorem beginSearch_unlitCount (u : LineUnit) : (beginSearch u).unlitCount = u.unlitCount := rfl
@[simp] theorem beginSearch_detect (u : LineUnit) : (beginSearch u).detect = u.detect := rfl
@[simp] theorem beginSearch_training (u : LineUnit) : (beginSearch u).training = u.training := rfl
@[simp] theorem beginSearch_qualification (u : LineUnit) : (beginSearch u).qualification = u.qualification := rfl
@[simp] theorem beginSearch_farParams (u : LineUnit) : (beginSearch u).farParams = u.farParams := rfl
@[simp] theorem beginSearch_trainedSend (u : LineUnit) : (beginSearch u).trainedSend = u.trainedSend := rfl
@[simp] theorem beginSearch_trainedRecv (u : LineUnit) : (beginSearch u).trainedRecv = u.trainedRecv := rfl
@[simp] theorem beginSearch_delay (u : LineUnit) : (beginSearch u).delay = u.delay := rfl
@[simp] theorem beginSearch_farCeiling (u : LineUnit) : (beginSearch u).farCeiling = u.farCeiling := rfl
@[simp] theorem beginSearch_qualify (u : LineUnit) : (beginSearch u).qualify = u.qualify := rfl
@[simp] theorem beginSearch_serviceClock (u : LineUnit) : (beginSearch u).serviceClock = u.serviceClock := rfl
@[simp] theorem beginSearch_los (u : LineUnit) : (beginSearch u).los = u.los := rfl
@[simp] theorem beginSearch_sendRate (u : LineUnit) : (beginSearch u).sendRate = u.sendRate := rfl
@[simp] theorem beginSearch_recvRate (u : LineUnit) : (beginSearch u).recvRate = u.recvRate := rfl
@[simp] theorem beginSearch_margin (u : LineUnit) : (beginSearch u).margin = u.margin := rfl
@[simp] theorem beginSearch_svc (u : LineUnit) : (beginSearch u).svc = u.svc := rfl
@[simp] theorem beginSearch_queue (u : LineUnit) : (beginSearch u).queue = u.queue := rfl
@[simp] theorem beginSearch_ctl (u : LineUnit) : (beginSearch u).ctl = u.ctl := rfl
@[simp] theorem beginSearch_tx (u : LineUnit) : (beginSearch u).tx = u.tx := rfl
@[simp] theorem beginSearch_txCount (u : LineUnit) : (beginSearch u).txCount = u.txCount := rfl
@[simp] theorem beginSearch_rxExpected (u : LineUnit) : (beginSearch u).rxExpected = u.rxExpected := rfl
@[simp] theorem beginSearch_lastReceived (u : LineUnit) : (beginSearch u).lastReceived = u.lastReceived := rfl

@[simp] theorem endSearch_state (r : Nat) (u : LineUnit) : (endSearch r u).state = u.state := rfl
@[simp] theorem endSearch_k (r : Nat) (u : LineUnit) : (endSearch r u).k = u.k := rfl
@[simp] theorem endSearch_holdOff (r : Nat) (u : LineUnit) : (endSearch r u).holdOff = u.holdOff := rfl
@[simp] theorem endSearch_monitor (r : Nat) (u : LineUnit) : (endSearch r u).monitor = u.monitor := rfl
@[simp] theorem endSearch_lit (r : Nat) (u : LineUnit) : (endSearch r u).lit = u.lit := rfl
@[simp] theorem endSearch_litCount (r : Nat) (u : LineUnit) : (endSearch r u).litCount = u.litCount := rfl
@[simp] theorem endSearch_unlitCount (r : Nat) (u : LineUnit) : (endSearch r u).unlitCount = u.unlitCount := rfl
@[simp] theorem endSearch_detect (r : Nat) (u : LineUnit) : (endSearch r u).detect = u.detect := rfl
@[simp] theorem endSearch_training (r : Nat) (u : LineUnit) : (endSearch r u).training = u.training := rfl
@[simp] theorem endSearch_qualification (r : Nat) (u : LineUnit) : (endSearch r u).qualification = u.qualification := rfl
@[simp] theorem endSearch_farParams (r : Nat) (u : LineUnit) : (endSearch r u).farParams = u.farParams := rfl
@[simp] theorem endSearch_trainedRecv (r : Nat) (u : LineUnit) : (endSearch r u).trainedRecv = u.trainedRecv := rfl
@[simp] theorem endSearch_delay (r : Nat) (u : LineUnit) : (endSearch r u).delay = u.delay := rfl
@[simp] theorem endSearch_farCeiling (r : Nat) (u : LineUnit) : (endSearch r u).farCeiling = u.farCeiling := rfl
@[simp] theorem endSearch_qualify (r : Nat) (u : LineUnit) : (endSearch r u).qualify = u.qualify := rfl
@[simp] theorem endSearch_serviceClock (r : Nat) (u : LineUnit) : (endSearch r u).serviceClock = u.serviceClock := rfl
@[simp] theorem endSearch_los (r : Nat) (u : LineUnit) : (endSearch r u).los = u.los := rfl
@[simp] theorem endSearch_sendRate (r : Nat) (u : LineUnit) : (endSearch r u).sendRate = u.sendRate := rfl
@[simp] theorem endSearch_recvRate (r : Nat) (u : LineUnit) : (endSearch r u).recvRate = u.recvRate := rfl
@[simp] theorem endSearch_margin (r : Nat) (u : LineUnit) : (endSearch r u).margin = u.margin := rfl
@[simp] theorem endSearch_svc (r : Nat) (u : LineUnit) : (endSearch r u).svc = u.svc := rfl
@[simp] theorem endSearch_queue (r : Nat) (u : LineUnit) : (endSearch r u).queue = u.queue := rfl
@[simp] theorem endSearch_ctl (r : Nat) (u : LineUnit) : (endSearch r u).ctl = u.ctl := rfl
@[simp] theorem endSearch_tx (r : Nat) (u : LineUnit) : (endSearch r u).tx = u.tx := rfl
@[simp] theorem endSearch_txCount (r : Nat) (u : LineUnit) : (endSearch r u).txCount = u.txCount := rfl
@[simp] theorem endSearch_rxExpected (r : Nat) (u : LineUnit) : (endSearch r u).rxExpected = u.rxExpected := rfl
@[simp] theorem endSearch_lastReceived (r : Nat) (u : LineUnit) : (endSearch r u).lastReceived = u.lastReceived := rfl

@[simp] theorem enterEcho_state (u : LineUnit) : (enterEcho u).state = u.state := rfl
@[simp] theorem enterEcho_k (u : LineUnit) : (enterEcho u).k = u.k := rfl
@[simp] theorem enterEcho_holdOff (u : LineUnit) : (enterEcho u).holdOff = u.holdOff := rfl
@[simp] theorem enterEcho_monitor (u : LineUnit) : (enterEcho u).monitor = u.monitor := rfl
@[simp] theorem enterEcho_lit (u : LineUnit) : (enterEcho u).lit = u.lit := rfl
@[simp] theorem enterEcho_litCount (u : LineUnit) : (enterEcho u).litCount = u.litCount := rfl
@[simp] theorem enterEcho_unlitCount (u : LineUnit) : (enterEcho u).unlitCount = u.unlitCount := rfl
@[simp] theorem enterEcho_detect (u : LineUnit) : (enterEcho u).detect = u.detect := rfl
@[simp] theorem enterEcho_training (u : LineUnit) : (enterEcho u).training = u.training := rfl
@[simp] theorem enterEcho_qualification (u : LineUnit) : (enterEcho u).qualification = u.qualification := rfl
@[simp] theorem enterEcho_farParams (u : LineUnit) : (enterEcho u).farParams = u.farParams := rfl
@[simp] theorem enterEcho_trainedSend (u : LineUnit) : (enterEcho u).trainedSend = u.trainedSend := rfl
@[simp] theorem enterEcho_trainedRecv (u : LineUnit) : (enterEcho u).trainedRecv = u.trainedRecv := rfl
@[simp] theorem enterEcho_delay (u : LineUnit) : (enterEcho u).delay = u.delay := rfl
@[simp] theorem enterEcho_farCeiling (u : LineUnit) : (enterEcho u).farCeiling = u.farCeiling := rfl
@[simp] theorem enterEcho_qualify (u : LineUnit) : (enterEcho u).qualify = u.qualify := rfl
@[simp] theorem enterEcho_serviceClock (u : LineUnit) : (enterEcho u).serviceClock = u.serviceClock := rfl
@[simp] theorem enterEcho_los (u : LineUnit) : (enterEcho u).los = u.los := rfl
@[simp] theorem enterEcho_sendRate (u : LineUnit) : (enterEcho u).sendRate = u.sendRate := rfl
@[simp] theorem enterEcho_recvRate (u : LineUnit) : (enterEcho u).recvRate = u.recvRate := rfl
@[simp] theorem enterEcho_margin (u : LineUnit) : (enterEcho u).margin = u.margin := rfl
@[simp] theorem enterEcho_svc (u : LineUnit) : (enterEcho u).svc = u.svc := rfl
@[simp] theorem enterEcho_queue (u : LineUnit) : (enterEcho u).queue = u.queue := rfl
@[simp] theorem enterEcho_ctl (u : LineUnit) : (enterEcho u).ctl = u.ctl := rfl
@[simp] theorem enterEcho_tx (u : LineUnit) : (enterEcho u).tx = u.tx := rfl
@[simp] theorem enterEcho_txCount (u : LineUnit) : (enterEcho u).txCount = u.txCount := rfl
@[simp] theorem enterEcho_rxExpected (u : LineUnit) : (enterEcho u).rxExpected = u.rxExpected := rfl
@[simp] theorem enterEcho_lastReceived (u : LineUnit) : (enterEcho u).lastReceived = u.lastReceived := rfl

end Sys2Proof.Machine
end

