-- ==== Sys2Proof/Laws/Ops.lean ====
section
/-! SUPPORT. What the shared operations of the bus port, the hold queue and the release controller can do, said once
for each: an equation or a case list, and the fields it leaves as they were. -/

namespace Sys2Proof.Machine

/-! ### Case lists -/

/-- An event changes the status unit alone. -/
theorem recordEvent_eq (kind : EventKind) (subject value : Nat) (s : State) :
    recordEvent kind subject value s =
      { s with status := (recordEvent kind subject value s).status } := by
  unfold recordEvent; split <;> rfl

/-- An event leaves every counter as it was. -/
theorem recordEvent_counters (kind : EventKind) (subject value : Nat) (s : State) :
    (recordEvent kind subject value s).status.live = s.status.live ∧
      (recordEvent kind subject value s).status.snap = s.status.snap := by
  unfold recordEvent; split <;> exact ⟨rfl, rfl⟩

/-- R176: the ring never grows beyond 16 entries. -/
theorem recordEvent_ring (kind : EventKind) (subject value : Nat) (s : State)
    (h : s.status.ring.length ≤ Config.ringEntries) :
    (recordEvent kind subject value s).status.ring.length ≤ Config.ringEntries := by
  unfold recordEvent Config.ringEntries at *
  split
  · exact h
  · simp only [List.length_append, List.length_singleton]
    split
    · omega
    · simp only [List.length_drop]; omega

/-- SKIP(E) is placed by a station with a number and an E, and otherwise nothing happens. -/
theorem placeSkip_cases (s : State) :
    placeSkip s = s ∨
      ∃ k e, s.group.number = some k ∧ s.release.e = some e ∧
        placeSkip s = placeBlock .skip ⟨seqValue e, stationAddress k, 0, []⟩ s := by
  unfold placeSkip
  split
  · rename_i k e hk he; exact .inr ⟨k, e, hk, he, rfl⟩
  · exact .inl rfl

/-- R157: the evidence skip does nothing, or places SKIP(E) at an ACTIVE station that waits with HOLD off. -/
theorem evidenceSkip_cases (s : State) :
    evidenceSkip s = s ∨
      (isActive s = true ∧ waiting s = true ∧ s.release.hold = false ∧ groupAhead s = true ∧
        evidenceSkip s = placeSkip s) := by
  unfold evidenceSkip
  split
  · rename_i h
    simp only [Bool.and_eq_true, Bool.not_eq_true'] at h
    exact .inr ⟨h.1.1.1, h.1.1.2, h.1.2, h.2, rfl⟩
  · exact .inl rfl

/-- R150: a RELEASE is placed from the head of the queue, or nothing happens. -/
theorem tryRelease_cases (s : State) :
    tryRelease s = s ∨
      ∃ k h t, s.group.number = some k ∧ s.holdQueue.entries = h :: t ∧ isActive s = true ∧
        s.release.e = some h.seq ∧ s.release.hold = false ∧ s.port.release = none ∧
        ownOnLine s.port .release = false ∧
        tryRelease s = placeBlock .release (releaseBlock k s.release.broken h) s := by
  unfold tryRelease
  split
  · rename_i k h t hk he
    split
    · rename_i hc
      simp only [Bool.and_eq_true, Bool.not_eq_true', Option.isNone_iff_eq_none] at hc
      refine .inr ⟨k, h, t, hk, he, hc.1.1.1.1, ?_, hc.1.1.2, hc.1.2, hc.2, rfl⟩
      have hh := hc.1.1.1.2
      unfold headAtE at hh
      rw [he] at hh
      split at hh
      · rename_i e _ _ hE hcons
        injection hcons with h1 _
        subst h1
        rw [hE, eq_of_beq hh]
      · exact absurd hh (by decide)
    · exact .inl rfl
  · exact .inl rfl

/-- R136: a purge keeps the entries at E or in window. -/
theorem purge_entries (s : State) (e : Seq) (h : s.release.e = some e) :
    (purge s).holdQueue.entries = s.holdQueue.entries.filter (inWindow e) := by
  unfold purge; rw [h]; rfl

/-- REBASE is placed by an ACTIVE station, and otherwise nothing happens. -/
theorem placeRebase_cases (q : Seq) (s : State) :
    placeRebase q s = s ∨
      ∃ k, s.group.number = some k ∧ isActive s = true ∧
        placeRebase q s = placeBlock .rebase ⟨seqValue q, stationAddress k, 0, []⟩ s := by
  unfold placeRebase
  split
  · rename_i k hk
    split
    · rename_i ha; exact .inr ⟨k, hk, ha, rfl⟩
    · exact .inl rfl
  · exact .inl rfl

/-- R13: a block of another kind closes an open slot with no claim unless the own CLAIM is on the line. -/
theorem closeByOther_cases (s : State) :
    (closeByOther s = s ∧ (s.port.slotOpen = false ∨ ownOnLine s.port .claim = true)) ∨
      (closeByOther s = closeNoClaim s ∧ s.port.slotOpen = true ∧ ownOnLine s.port .claim = false) := by
  unfold closeByOther
  cases h1 : s.port.slotOpen <;> cases h2 : ownOnLine s.port .claim <;> simp

/-- R7: what an observation can be. -/
theorem observe_cases {k : SlotKind} {o : Observed} {s t : State} {own : Bool} {blk : BusBlock}
    (h : observe k o s = some (own, blk, t)) :
    (o = .own ∧ own = true ∧
        ∃ x, s.port.onLine = some x ∧ x.kind = k ∧ x.block = blk ∧
          t = blockEnded { s with port := { s.port with onLine := none } }) ∨
      (o = .heard blk ∧ own = false ∧ k = .claim ∧ t = blockEnded s) ∨
      (o = .heard blk ∧ own = false ∧ k ≠ .claim ∧ t = closeByOther (blockEnded s)) := by
  unfold observe at h
  split at h
  · split at h
    · cases h
    · rename_i x hx
      split at h
      · rename_i hk
        simp only [Option.some.injEq, Prod.mk.injEq] at h
        exact .inl ⟨rfl, h.1.symm, x, hx, hk, h.2.1, h.2.2.symm⟩
      · cases h
  · split at h
    · rename_i hk
      simp only [Option.some.injEq, Prod.mk.injEq] at h
      obtain ⟨rfl, rfl, rfl⟩ := h
      exact .inr (.inl ⟨rfl, rfl, hk, rfl⟩)
    · rename_i hk
      simp only [Option.some.injEq, Prod.mk.injEq] at h
      obtain ⟨rfl, rfl, rfl⟩ := h
      exact .inr (.inr ⟨rfl, rfl, hk, rfl⟩)

/-- R132: the members after a new entry has been placed. -/
theorem mem_insertEntry (e : Seq) (x y : HoldEntry) (l : List HoldEntry) :
    y ∈ insertEntry e x l ↔ y = x ∨ y ∈ l := by
  induction l with
  | nil => simp [insertEntry]
  | cons h t ih =>
    unfold insertEntry
    split
    · simp only [List.mem_cons, ih]; tauto
    · simp only [List.mem_cons]

/-- R132: a new entry adds one. -/
theorem length_insertEntry (e : Seq) (x : HoldEntry) (l : List HoldEntry) :
    (insertEntry e x l).length = l.length + 1 := by
  induction l with
  | nil => rfl
  | cons h t ih =>
    unfold insertEntry
    split
    · simp only [List.length_cons, ih]
    · rfl

/-- R131: the four classes of an arrival. -/
theorem classifyArrival_cases (e : Seq) (x : HoldEntry) (s : State) :
    (∃ t, t.holdQueue = s.holdQueue ∧ classifyArrival e x s = runawayUp x.seq t) ∨
      (classifyArrival e x s).holdQueue = s.holdQueue ∨
      (seqDist e x.seq < Config.window ∧ (∀ h ∈ s.holdQueue.entries, h.seq ≠ x.seq) ∧
        (classifyArrival e x s = storeEntry e x s ∧ s.holdQueue.entries.length < Config.holdEntries ∨
          classifyArrival e x s = storeAtFull e x s ∧ Config.holdEntries ≤ s.holdQueue.entries.length)) := by
  unfold classifyArrival
  split
  · exact .inl ⟨countStation _ s, rfl, rfl⟩
  · split
    · exact .inl ⟨countStation _ s, rfl, rfl⟩
    · rename_i hw
      split
      · exact .inr (.inl rfl)
      · rename_i hd
        refine .inr (.inr ⟨Nat.lt_of_not_le hw, ?_, ?_⟩)
        · intro h hm heq
          exact hd (List.any_eq_true.mpr ⟨h, hm, by simp [heq]⟩)
        · split
          · rename_i hl; exact .inl ⟨rfl, hl⟩
          · rename_i hl; exact .inr ⟨rfl, Nat.le_of_not_lt hl⟩

/-! ### Fields an operation leaves as they were -/

@[simp] theorem recordEvent_port (k : EventKind) (a b : Nat) (s : State) : (recordEvent k a b s).port = s.port := by
  simp only [recordEvent]; split <;> rfl

@[simp] theorem recordEvent_group (k : EventKind) (a b : Nat) (s : State) : (recordEvent k a b s).group = s.group := by
  simp only [recordEvent]; split <;> rfl

@[simp] theorem recordEvent_sequencer (k : EventKind) (a b : Nat) (s : State) : (recordEvent k a b s).sequencer = s.sequencer := by
  simp only [recordEvent]; split <;> rfl

@[simp] theorem recordEvent_lines (k : EventKind) (a b : Nat) (s : State) : (recordEvent k a b s).lines = s.lines := by
  simp only [recordEvent]; split <;> rfl

@[simp] theorem recordEvent_holdQueue (k : EventKind) (a b : Nat) (s : State) : (recordEvent k a b s).holdQueue = s.holdQueue := by
  simp only [recordEvent]; split <;> rfl

@[simp] theorem recordEvent_release (k : EventKind) (a b : Nat) (s : State) : (recordEvent k a b s).release = s.release := by
  simp only [recordEvent]; split <;> rfl

@[simp] theorem recordEvent_timeBase (k : EventKind) (a b : Nat) (s : State) : (recordEvent k a b s).timeBase = s.timeBase := by
  simp only [recordEvent]; split <;> rfl

@[simp] theorem recordEvent_pending (k : EventKind) (a b : Nat) (s : State) : (recordEvent k a b s).pending = s.pending := by
  simp only [recordEvent]; split <;> rfl

@[simp] theorem placeSkip_group (s : State) : (placeSkip s).group = s.group := by
  simp only [placeSkip]; split <;> rfl

@[simp] theorem placeSkip_sequencer (s : State) : (placeSkip s).sequencer = s.sequencer := by
  simp only [placeSkip]; split <;> rfl

@[simp] theorem placeSkip_lines (s : State) : (placeSkip s).lines = s.lines := by
  simp only [placeSkip]; split <;> rfl

@[simp] theorem placeSkip_holdQueue (s : State) : (placeSkip s).holdQueue = s.holdQueue := by
  simp only [placeSkip]; split <;> rfl

@[simp] theorem placeSkip_release (s : State) : (placeSkip s).release = s.release := by
  simp only [placeSkip]; split <;> rfl

@[simp] theorem placeSkip_status (s : State) : (placeSkip s).status = s.status := by
  simp only [placeSkip]; split <;> rfl

@[simp] theorem placeSkip_timeBase (s : State) : (placeSkip s).timeBase = s.timeBase := by
  simp only [placeSkip]; split <;> rfl

@[simp] theorem placeSkip_pending (s : State) : (placeSkip s).pending = s.pending := by
  simp only [placeSkip]; split <;> rfl

@[simp] theorem evidenceSkip_group (s : State) : (evidenceSkip s).group = s.group := by
  simp only [evidenceSkip]; split <;> simp

@[simp] theorem evidenceSkip_sequencer (s : State) : (evidenceSkip s).sequencer = s.sequencer := by
  simp only [evidenceSkip]; split <;> simp

@[simp] theorem evidenceSkip_lines (s : State) : (evidenceSkip s).lines = s.lines := by
  simp only [evidenceSkip]; split <;> simp

@[simp] theorem evidenceSkip_holdQueue (s : State) : (evidenceSkip s).holdQueue = s.holdQueue := by
  simp only [evidenceSkip]; split <;> simp

@[simp] theorem evidenceSkip_release (s : State) : (evidenceSkip s).release = s.release := by
  simp only [evidenceSkip]; split <;> simp

@[simp] theorem evidenceSkip_status (s : State) : (evidenceSkip s).status = s.status := by
  simp only [evidenceSkip]; split <;> simp

@[simp] theorem evidenceSkip_timeBase (s : State) : (evidenceSkip s).timeBase = s.timeBase := by
  simp only [evidenceSkip]; split <;> simp

@[simp] theorem evidenceSkip_pending (s : State) : (evidenceSkip s).pending = s.pending := by
  simp only [evidenceSkip]; split <;> simp

@[simp] theorem tryRelease_group (s : State) : (tryRelease s).group = s.group := by
  simp only [tryRelease]; (repeat' split) <;> rfl

@[simp] theorem tryRelease_sequencer (s : State) : (tryRelease s).sequencer = s.sequencer := by
  simp only [tryRelease]; (repeat' split) <;> rfl

@[simp] theorem tryRelease_lines (s : State) : (tryRelease s).lines = s.lines := by
  simp only [tryRelease]; (repeat' split) <;> rfl

@[simp] theorem tryRelease_holdQueue (s : State) : (tryRelease s).holdQueue = s.holdQueue := by
  simp only [tryRelease]; (repeat' split) <;> rfl

@[simp] theorem tryRelease_release (s : State) : (tryRelease s).release = s.release := by
  simp only [tryRelease]; (repeat' split) <;> rfl

@[simp] theorem tryRelease_status (s : State) : (tryRelease s).status = s.status := by
  simp only [tryRelease]; (repeat' split) <;> rfl

@[simp] theorem tryRelease_timeBase (s : State) : (tryRelease s).timeBase = s.timeBase := by
  simp only [tryRelease]; (repeat' split) <;> rfl

@[simp] theorem tryRelease_pending (s : State) : (tryRelease s).pending = s.pending := by
  simp only [tryRelease]; (repeat' split) <;> rfl

@[simp] theorem purge_port (s : State) : (purge s).port = s.port := by
  simp only [purge]; split <;> rfl

@[simp] theorem purge_group (s : State) : (purge s).group = s.group := by
  simp only [purge]; split <;> rfl

@[simp] theorem purge_sequencer (s : State) : (purge s).sequencer = s.sequencer := by
  simp only [purge]; split <;> rfl

@[simp] theorem purge_lines (s : State) : (purge s).lines = s.lines := by
  simp only [purge]; split <;> rfl

@[simp] theorem purge_release (s : State) : (purge s).release = s.release := by
  simp only [purge]; split <;> rfl

@[simp] theorem purge_timeBase (s : State) : (purge s).timeBase = s.timeBase := by
  simp only [purge]; split <;> rfl

@[simp] theorem purge_pending (s : State) : (purge s).pending = s.pending := by
  simp only [purge]; split <;> rfl

@[simp] theorem placeRebase_group (q : Seq) (s : State) : (placeRebase q s).group = s.group := by
  simp only [placeRebase]; (repeat' split) <;> rfl

@[simp] theorem placeRebase_sequencer (q : Seq) (s : State) : (placeRebase q s).sequencer = s.sequencer := by
  simp only [placeRebase]; (repeat' split) <;> rfl

@[simp] theorem placeRebase_lines (q : Seq) (s : State) : (placeRebase q s).lines = s.lines := by
  simp only [placeRebase]; (repeat' split) <;> rfl

@[simp] theorem placeRebase_holdQueue (q : Seq) (s : State) : (placeRebase q s).holdQueue = s.holdQueue := by
  simp only [placeRebase]; (repeat' split) <;> rfl

@[simp] theorem placeRebase_release (q : Seq) (s : State) : (placeRebase q s).release = s.release := by
  simp only [placeRebase]; (repeat' split) <;> rfl

@[simp] theorem placeRebase_status (q : Seq) (s : State) : (placeRebase q s).status = s.status := by
  simp only [placeRebase]; (repeat' split) <;> rfl

@[simp] theorem placeRebase_timeBase (q : Seq) (s : State) : (placeRebase q s).timeBase = s.timeBase := by
  simp only [placeRebase]; (repeat' split) <;> rfl

@[simp] theorem placeRebase_pending (q : Seq) (s : State) : (placeRebase q s).pending = s.pending := by
  simp only [placeRebase]; (repeat' split) <;> rfl

@[simp] theorem countLost_port (s : State) : (countLost s).port = s.port := by
  simp only [countLost]; split <;> rfl

@[simp] theorem countLost_group (s : State) : (countLost s).group = s.group := by
  simp only [countLost]; split <;> rfl

@[simp] theorem countLost_sequencer (s : State) : (countLost s).sequencer = s.sequencer := by
  simp only [countLost]; split <;> rfl

@[simp] theorem countLost_lines (s : State) : (countLost s).lines = s.lines := by
  simp only [countLost]; split <;> rfl

@[simp] theorem countLost_holdQueue (s : State) : (countLost s).holdQueue = s.holdQueue := by
  simp only [countLost]; split <;> rfl

@[simp] theorem countLost_release (s : State) : (countLost s).release = s.release := by
  simp only [countLost]; split <;> rfl

@[simp] theorem countLost_timeBase (s : State) : (countLost s).timeBase = s.timeBase := by
  simp only [countLost]; split <;> rfl

@[simp] theorem countLost_pending (s : State) : (countLost s).pending = s.pending := by
  simp only [countLost]; split <;> rfl

@[simp] theorem closeNoClaim_group (s : State) : (closeNoClaim s).group = s.group := by
  simp only [closeNoClaim]; split <;> simp

@[simp] theorem closeNoClaim_lines (s : State) : (closeNoClaim s).lines = s.lines := by
  simp only [closeNoClaim]; split <;> simp

@[simp] theorem closeNoClaim_holdQueue (s : State) : (closeNoClaim s).holdQueue = s.holdQueue := by
  simp only [closeNoClaim]; split <;> simp

@[simp] theorem closeNoClaim_release (s : State) : (closeNoClaim s).release = s.release := by
  simp only [closeNoClaim]; split <;> simp

@[simp] theorem closeNoClaim_timeBase (s : State) : (closeNoClaim s).timeBase = s.timeBase := by
  simp only [closeNoClaim]; split <;> simp

@[simp] theorem closeNoClaim_pending (s : State) : (closeNoClaim s).pending = s.pending := by
  simp only [closeNoClaim]; split <;> simp

@[simp] theorem closeByOther_group (s : State) : (closeByOther s).group = s.group := by
  simp only [closeByOther]; split <;> simp

@[simp] theorem closeByOther_lines (s : State) : (closeByOther s).lines = s.lines := by
  simp only [closeByOther]; split <;> simp

@[simp] theorem closeByOther_holdQueue (s : State) : (closeByOther s).holdQueue = s.holdQueue := by
  simp only [closeByOther]; split <;> simp

@[simp] theorem closeByOther_release (s : State) : (closeByOther s).release = s.release := by
  simp only [closeByOther]; split <;> simp

@[simp] theorem closeByOther_timeBase (s : State) : (closeByOther s).timeBase = s.timeBase := by
  simp only [closeByOther]; split <;> simp

@[simp] theorem closeByOther_pending (s : State) : (closeByOther s).pending = s.pending := by
  simp only [closeByOther]; split <;> simp

@[simp] theorem countEAdoption_port (q : Seq) (s : State) : (countEAdoption q s).port = s.port := by
  simp only [countEAdoption]; split <;> rfl

@[simp] theorem countEAdoption_group (q : Seq) (s : State) : (countEAdoption q s).group = s.group := by
  simp only [countEAdoption]; split <;> rfl

@[simp] theorem countEAdoption_sequencer (q : Seq) (s : State) : (countEAdoption q s).sequencer = s.sequencer := by
  simp only [countEAdoption]; split <;> rfl

@[simp] theorem countEAdoption_lines (q : Seq) (s : State) : (countEAdoption q s).lines = s.lines := by
  simp only [countEAdoption]; split <;> rfl

@[simp] theorem countEAdoption_holdQueue (q : Seq) (s : State) : (countEAdoption q s).holdQueue = s.holdQueue := by
  simp only [countEAdoption]; split <;> rfl

@[simp] theorem countEAdoption_release (q : Seq) (s : State) : (countEAdoption q s).release = s.release := by
  simp only [countEAdoption]; split <;> rfl

@[simp] theorem countEAdoption_timeBase (q : Seq) (s : State) : (countEAdoption q s).timeBase = s.timeBase := by
  simp only [countEAdoption]; split <;> rfl

@[simp] theorem countEAdoption_pending (q : Seq) (s : State) : (countEAdoption q s).pending = s.pending := by
  simp only [countEAdoption]; split <;> rfl

@[simp] theorem holdTurnsOn_group (s : State) : (holdTurnsOn s).group = s.group := by
  rfl

@[simp] theorem holdTurnsOn_sequencer (s : State) : (holdTurnsOn s).sequencer = s.sequencer := by
  rfl

@[simp] theorem holdTurnsOn_lines (s : State) : (holdTurnsOn s).lines = s.lines := by
  rfl

@[simp] theorem holdTurnsOn_holdQueue (s : State) : (holdTurnsOn s).holdQueue = s.holdQueue := by
  rfl

@[simp] theorem holdTurnsOn_status (s : State) : (holdTurnsOn s).status = s.status := by
  rfl

@[simp] theorem holdTurnsOn_timeBase (s : State) : (holdTurnsOn s).timeBase = s.timeBase := by
  rfl

@[simp] theorem holdTurnsOn_pending (s : State) : (holdTurnsOn s).pending = s.pending := by
  rfl

@[simp] theorem holdTurnsOff_group (s : State) : (holdTurnsOff s).group = s.group := by
  simp only [holdTurnsOff]; split <;> simp

@[simp] theorem holdTurnsOff_sequencer (s : State) : (holdTurnsOff s).sequencer = s.sequencer := by
  simp only [holdTurnsOff]; split <;> simp

@[simp] theorem holdTurnsOff_lines (s : State) : (holdTurnsOff s).lines = s.lines := by
  simp only [holdTurnsOff]; split <;> simp

@[simp] theorem holdTurnsOff_holdQueue (s : State) : (holdTurnsOff s).holdQueue = s.holdQueue := by
  simp only [holdTurnsOff]; split <;> simp

@[simp] theorem holdTurnsOff_status (s : State) : (holdTurnsOff s).status = s.status := by
  simp only [holdTurnsOff]; split <;> simp

@[simp] theorem holdTurnsOff_timeBase (s : State) : (holdTurnsOff s).timeBase = s.timeBase := by
  simp only [holdTurnsOff]; split <;> simp

@[simp] theorem holdTurnsOff_pending (s : State) : (holdTurnsOff s).pending = s.pending := by
  simp only [holdTurnsOff]; split <;> simp

@[simp] theorem moveE_group (s : State) : (moveE s).group = s.group := by
  simp [moveE]

@[simp] theorem moveE_sequencer (s : State) : (moveE s).sequencer = s.sequencer := by
  simp [moveE]

@[simp] theorem moveE_lines (s : State) : (moveE s).lines = s.lines := by
  simp [moveE]

@[simp] theorem moveE_timeBase (s : State) : (moveE s).timeBase = s.timeBase := by
  simp [moveE]

@[simp] theorem moveE_pending (s : State) : (moveE s).pending = s.pending := by
  simp [moveE]

@[simp] theorem runawayUp_group (q : Seq) (s : State) : (runawayUp q s).group = s.group := by
  simp only [runawayUp]; split <;> simp

@[simp] theorem runawayUp_sequencer (q : Seq) (s : State) : (runawayUp q s).sequencer = s.sequencer := by
  simp only [runawayUp]; split <;> simp

@[simp] theorem runawayUp_lines (q : Seq) (s : State) : (runawayUp q s).lines = s.lines := by
  simp only [runawayUp]; split <;> simp

@[simp] theorem runawayUp_release (q : Seq) (s : State) : (runawayUp q s).release = s.release := by
  simp only [runawayUp]; split <;> simp

@[simp] theorem runawayUp_status (q : Seq) (s : State) : (runawayUp q s).status = s.status := by
  simp only [runawayUp]; split <;> simp

@[simp] theorem runawayUp_timeBase (q : Seq) (s : State) : (runawayUp q s).timeBase = s.timeBase := by
  simp only [runawayUp]; split <;> simp

@[simp] theorem runawayUp_pending (q : Seq) (s : State) : (runawayUp q s).pending = s.pending := by
  simp only [runawayUp]; split <;> simp

@[simp] theorem storeAtFull_port (e : Seq) (x : HoldEntry) (s : State) : (storeAtFull e x s).port = s.port := by
  simp only [storeAtFull]; (repeat' split) <;> rfl

@[simp] theorem storeAtFull_group (e : Seq) (x : HoldEntry) (s : State) : (storeAtFull e x s).group = s.group := by
  simp only [storeAtFull]; (repeat' split) <;> rfl

@[simp] theorem storeAtFull_sequencer (e : Seq) (x : HoldEntry) (s : State) : (storeAtFull e x s).sequencer = s.sequencer := by
  simp only [storeAtFull]; (repeat' split) <;> rfl

@[simp] theorem storeAtFull_lines (e : Seq) (x : HoldEntry) (s : State) : (storeAtFull e x s).lines = s.lines := by
  simp only [storeAtFull]; (repeat' split) <;> rfl

@[simp] theorem storeAtFull_release (e : Seq) (x : HoldEntry) (s : State) : (storeAtFull e x s).release = s.release := by
  simp only [storeAtFull]; (repeat' split) <;> rfl

@[simp] theorem storeAtFull_timeBase (e : Seq) (x : HoldEntry) (s : State) : (storeAtFull e x s).timeBase = s.timeBase := by
  simp only [storeAtFull]; (repeat' split) <;> rfl

@[simp] theorem storeAtFull_pending (e : Seq) (x : HoldEntry) (s : State) : (storeAtFull e x s).pending = s.pending := by
  simp only [storeAtFull]; (repeat' split) <;> rfl

@[simp] theorem classifyArrival_group (e : Seq) (x : HoldEntry) (s : State) : (classifyArrival e x s).group = s.group := by
  simp only [classifyArrival]; (repeat' split) <;> simp

@[simp] theorem classifyArrival_sequencer (e : Seq) (x : HoldEntry) (s : State) : (classifyArrival e x s).sequencer = s.sequencer := by
  simp only [classifyArrival]; (repeat' split) <;> simp

@[simp] theorem classifyArrival_lines (e : Seq) (x : HoldEntry) (s : State) : (classifyArrival e x s).lines = s.lines := by
  simp only [classifyArrival]; (repeat' split) <;> simp

@[simp] theorem classifyArrival_release (e : Seq) (x : HoldEntry) (s : State) : (classifyArrival e x s).release = s.release := by
  simp only [classifyArrival]; (repeat' split) <;> simp

@[simp] theorem classifyArrival_timeBase (e : Seq) (x : HoldEntry) (s : State) : (classifyArrival e x s).timeBase = s.timeBase := by
  simp only [classifyArrival]; (repeat' split) <;> simp

@[simp] theorem classifyArrival_pending (e : Seq) (x : HoldEntry) (s : State) : (classifyArrival e x s).pending = s.pending := by
  simp only [classifyArrival]; (repeat' split) <;> simp

@[simp] theorem skipTimerAtArrival_group (b : Bool) (s : State) : (skipTimerAtArrival b s).group = s.group := by
  simp only [skipTimerAtArrival]; (repeat' split) <;> rfl

@[simp] theorem skipTimerAtArrival_sequencer (b : Bool) (s : State) : (skipTimerAtArrival b s).sequencer = s.sequencer := by
  simp only [skipTimerAtArrival]; (repeat' split) <;> rfl

@[simp] theorem skipTimerAtArrival_lines (b : Bool) (s : State) : (skipTimerAtArrival b s).lines = s.lines := by
  simp only [skipTimerAtArrival]; (repeat' split) <;> rfl

@[simp] theorem skipTimerAtArrival_holdQueue (b : Bool) (s : State) : (skipTimerAtArrival b s).holdQueue = s.holdQueue := by
  simp only [skipTimerAtArrival]; (repeat' split) <;> rfl

@[simp] theorem skipTimerAtArrival_status (b : Bool) (s : State) : (skipTimerAtArrival b s).status = s.status := by
  simp only [skipTimerAtArrival]; (repeat' split) <;> rfl

@[simp] theorem skipTimerAtArrival_timeBase (b : Bool) (s : State) : (skipTimerAtArrival b s).timeBase = s.timeBase := by
  simp only [skipTimerAtArrival]; (repeat' split) <;> rfl

@[simp] theorem skipTimerAtArrival_pending (b : Bool) (s : State) : (skipTimerAtArrival b s).pending = s.pending := by
  simp only [skipTimerAtArrival]; (repeat' split) <;> rfl

@[simp] theorem holdArrival_group (x : HoldEntry) (s : State) : (holdArrival x s).group = s.group := by
  simp only [holdArrival]; split <;> simp

@[simp] theorem holdArrival_sequencer (x : HoldEntry) (s : State) : (holdArrival x s).sequencer = s.sequencer := by
  simp only [holdArrival]; split <;> simp

@[simp] theorem holdArrival_lines (x : HoldEntry) (s : State) : (holdArrival x s).lines = s.lines := by
  simp only [holdArrival]; split <;> simp

@[simp] theorem holdArrival_timeBase (x : HoldEntry) (s : State) : (holdArrival x s).timeBase = s.timeBase := by
  simp only [holdArrival]; split <;> simp

@[simp] theorem holdArrival_pending (x : HoldEntry) (s : State) : (holdArrival x s).pending = s.pending := by
  simp only [holdArrival]; split <;> simp

@[simp] theorem releaseDropped_group (blk : BusBlock) (s : State) : (releaseDropped blk s).group = s.group := by
  simp only [releaseDropped]; split <;> simp

@[simp] theorem releaseDropped_sequencer (blk : BusBlock) (s : State) : (releaseDropped blk s).sequencer = s.sequencer := by
  simp only [releaseDropped]; split <;> simp

@[simp] theorem releaseDropped_lines (blk : BusBlock) (s : State) : (releaseDropped blk s).lines = s.lines := by
  simp only [releaseDropped]; split <;> simp

@[simp] theorem releaseDropped_status (blk : BusBlock) (s : State) : (releaseDropped blk s).status = s.status := by
  simp only [releaseDropped]; split <;> simp

@[simp] theorem releaseDropped_timeBase (blk : BusBlock) (s : State) : (releaseDropped blk s).timeBase = s.timeBase := by
  simp only [releaseDropped]; split <;> simp

@[simp] theorem releaseDropped_pending (blk : BusBlock) (s : State) : (releaseDropped blk s).pending = s.pending := by
  simp only [releaseDropped]; split <;> simp

@[simp] theorem skipDropped_group (s : State) : (skipDropped s).group = s.group := by
  simp only [skipDropped]; split <;> simp

@[simp] theorem skipDropped_sequencer (s : State) : (skipDropped s).sequencer = s.sequencer := by
  simp only [skipDropped]; split <;> simp

@[simp] theorem skipDropped_lines (s : State) : (skipDropped s).lines = s.lines := by
  simp only [skipDropped]; split <;> simp

@[simp] theorem skipDropped_holdQueue (s : State) : (skipDropped s).holdQueue = s.holdQueue := by
  simp only [skipDropped]; split <;> simp

@[simp] theorem skipDropped_status (s : State) : (skipDropped s).status = s.status := by
  simp only [skipDropped]; split <;> simp

@[simp] theorem skipDropped_timeBase (s : State) : (skipDropped s).timeBase = s.timeBase := by
  simp only [skipDropped]; split <;> simp

@[simp] theorem skipDropped_pending (s : State) : (skipDropped s).pending = s.pending := by
  simp only [skipDropped]; split <;> simp

@[simp] theorem blockDropped_group (x : OnLine) (s : State) : (blockDropped x s).group = s.group := by
  simp only [blockDropped]; split <;> simp

@[simp] theorem blockDropped_sequencer (x : OnLine) (s : State) : (blockDropped x s).sequencer = s.sequencer := by
  simp only [blockDropped]; split <;> simp

@[simp] theorem blockDropped_lines (x : OnLine) (s : State) : (blockDropped x s).lines = s.lines := by
  simp only [blockDropped]; split <;> simp

@[simp] theorem blockDropped_timeBase (x : OnLine) (s : State) : (blockDropped x s).timeBase = s.timeBase := by
  simp only [blockDropped]; split <;> simp

@[simp] theorem blockDropped_pending (x : OnLine) (s : State) : (blockDropped x s).pending = s.pending := by
  simp only [blockDropped]; split <;> simp

@[simp] theorem attemptFailed_group (x : OnLine) (s : State) : (attemptFailed x s).group = s.group := by
  simp only [attemptFailed]; (repeat' split) <;> simp

@[simp] theorem attemptFailed_sequencer (x : OnLine) (s : State) : (attemptFailed x s).sequencer = s.sequencer := by
  simp only [attemptFailed]; (repeat' split) <;> simp

@[simp] theorem attemptFailed_lines (x : OnLine) (s : State) : (attemptFailed x s).lines = s.lines := by
  simp only [attemptFailed]; (repeat' split) <;> simp

@[simp] theorem attemptFailed_timeBase (x : OnLine) (s : State) : (attemptFailed x s).timeBase = s.timeBase := by
  simp only [attemptFailed]; (repeat' split) <;> simp

@[simp] theorem attemptFailed_pending (x : OnLine) (s : State) : (attemptFailed x s).pending = s.pending := by
  simp only [attemptFailed]; (repeat' split) <;> simp

/-! ### What a dropped block does (R11, R151, R152, R154) -/

@[simp] theorem evidenceSkip_mark (s : State) : (evidenceSkip s).port.mark = s.port.mark := by
  obtain h | ⟨_, _, _, _, h⟩ := evidenceSkip_cases s <;> rw [h]
  unfold placeSkip; split <;> rfl

/-- R157: of the bus port the evidence skip writes the SKIP slot alone. -/
theorem evidenceSkip_port (s : State) : (evidenceSkip s).port = { s.port with skip := (evidenceSkip s).port.skip } := by
  obtain h | ⟨_, _, _, _, h⟩ := evidenceSkip_cases s <;> rw [h]
  unfold placeSkip; split <;> rfl

/-- R157: what the evidence skip leaves in the SKIP slot depends on the group, the release controller, the hold queue, the line
units and the slot itself, and on nothing else. -/
theorem evidenceSkip_skip_congr (a b : State) (hg : a.group = b.group) (hr : a.release = b.release)
    (hh : a.holdQueue = b.holdQueue) (hl : a.lines = b.lines) (hs : a.port.skip = b.port.skip) :
    (evidenceSkip a).port.skip = (evidenceSkip b).port.skip := by
  have hline : line a = line b := by funext p; simp [line, hl]
  have h1 : waiting a = waiting b := by simp [waiting, headAtE, hr, hh]
  have h2 : isActive a = isActive b := by simp [isActive, hg]
  have h3 : groupAhead a = groupAhead b := by
    simp [groupAhead, ownHorizon, presentPeers, servingLines, hline, hg, hr, hh]
  simp only [evidenceSkip, h1, h2, h3, hr]
  split
  · simp only [placeSkip, hg, hr]; split <;> simp [placeBlock, setSlot, hs]
  · exact hs

@[simp] theorem releaseDropped_mark (blk : BusBlock) (s : State) : (releaseDropped blk s).port.mark = s.port.mark := by
  simp only [releaseDropped, evidenceSkip_mark]; split <;> rfl

@[simp] theorem skipDropped_mark (s : State) : (skipDropped s).port.mark = s.port.mark := by
  simp only [skipDropped, evidenceSkip_mark]; split <;> rfl

theorem skipDropped_release (s : State) :
    (skipDropped s).release =
      if isActive s && waiting s && !s.release.hold then { s.release with skipTimer := .running (effectiveSkip s) }
      else s.release := by
  simp only [skipDropped, evidenceSkip_release]; split <;> rfl

theorem releaseDropped_holdQueue (blk : BusBlock) (s : State) :
    (releaseDropped blk s).holdQueue = (removeEntry (valueSeq blk.value) s).holdQueue := by
  simp only [releaseDropped, evidenceSkip_holdQueue]; split <;> rfl

theorem releaseDropped_release (blk : BusBlock) (s : State) :
    (releaseDropped blk s).release =
      if isActive s && waiting (removeEntry (valueSeq blk.value) s) then { s.release with skipTimer := loadedSkip s }
      else s.release := by
  simp only [releaseDropped, evidenceSkip_release, show isActive (removeEntry (valueSeq blk.value) s) = isActive s from rfl]
  split <;> rfl

/-! ### Join values that are absent stay so (R22) -/

theorem joinNs_none (q : Seq) (s : State) (h : s.group.join.values = none) : joinNs q s = s := by
  simp [joinNs, modJoin, h]; rw [← h]

theorem joinE_none (q : Seq) (s : State) (h : s.group.join.values = none) : joinE q s = s := by
  simp [joinE, modJoin, h]; rw [← h]

end Sys2Proof.Machine
end

