-- ==== Sys2Proof/Laws/Lines.lean ====
section
/-! SUPPORT. What the operations of the line units can do, said once for each, and what they leave as it was: the
fields of the state that they do not touch, and the line units of the other pairs. -/

namespace Sys2Proof.Machine

/-! ### Case lists -/

/-- A command of a line unit's timer acts when its condition holds, and otherwise leaves the state as it was. -/
theorem whenLine_cases (p : Pair) (c : LineUnit → Bool) (f : State → State) (s : State) :
    (c (line s p) = true ∧ whenLine p c f s = f s) ∨ (c (line s p) = false ∧ whenLine p c f s = s) := by
  unfold whenLine
  cases h : c (line s p) <;> simp

/-- R74: a good frame is ignored in OFF and QUIET, ends with its count check if that made QUALIFY fail, and otherwise
goes on to be acted on. -/
theorem receiveCounted_cases (p : Pair) (f : Frame) (act : State → State) (s : State) :
    (hears (line s p) = false ∧ receiveCounted p f act s = s) ∨
      (hears (line s p) = true ∧ hears (line (checkCount p f s) p) = false ∧
        receiveCounted p f act s = checkCount p f s) ∨
      (hears (line s p) = true ∧ hears (line (checkCount p f s) p) = true ∧
        receiveCounted p f act s = act (checkCount p f s)) := by
  unfold receiveCounted
  cases h1 : hears (line s p)
  · simp
  · cases h2 : hears (line (checkCount p f s) p) <;> simp [h2]

/-- R85: what an exit does to a line unit's k, and nothing else. -/
theorem raiseKAtExit_cases (u : LineUnit) :
    (u.serviceClock = .stopped ∧ raiseKAtExit u = u) ∨ (u.serviceClock = .running 0 ∧ raiseKAtExit u = { u with k := 0 }) ∨
      (∃ n, u.serviceClock = .running (n + 1) ∧ raiseKAtExit u = raiseK u) := by
  unfold raiseKAtExit
  cases u.serviceClock with
  | stopped => simp
  | running n => cases n <;> simp

/-- The end of a named frame acts only when the frame on the pair is of that name. -/
theorem endOf_cases (is : TxContent → Bool) (p : Pair) (s : State) :
    (endOf is p s = s ∧ ∀ x, (line s p).tx = some x → is x.content = false) ∨
      (∃ x, (line s p).tx = some x ∧ is x.content = true ∧ endOf is p s = frameEnds p s) := by
  unfold endOf
  cases h : (line s p).tx with
  | none => simp
  | some x => cases hx : is x.content <;> simp [hx]

/-- R122: a wind-down ends normally, or nothing happens. -/
theorem tryWindDownEnd_cases (p : Pair) (s : State) :
    tryWindDownEnd p s = s ∨
      (windDownDone (line s p) = true ∧ tryWindDownEnd p s = exitPair p .windDownEnd s) := by
  unfold tryWindDownEnd
  cases h : windDownDone (line s p) <;> simp

/-- R93: every candidate a search goes on to, and the rate it ends with, lies in its range. -/
theorem halve_within (lo hi good fail burst : Nat) (hg : lo ≤ good ∧ good ≤ hi) (hf : lo ≤ fail ∧ fail ≤ hi) :
    (∀ sr, halve good fail burst = .next sr → lo ≤ sr.candidate ∧ sr.candidate ≤ hi) ∧
      (∀ r, halve good fail burst = .done r → lo ≤ r ∧ r ≤ hi) := by
  unfold halve
  constructor
  · intro sr h
    split at h
    · injection h with h; subst h; constructor <;> (simp only; omega)
    · cases h
  · intro r h
    split at h
    · cases h
    · injection h with h; subst h; exact hg

/-- R99: D lies in 0 to 16,383. -/
theorem pathDelay_le (trip turnaround rate : Nat) : pathDelay trip turnaround rate ≤ Config.maxDelay := by
  unfold pathDelay; exact Nat.min_le_left _ _

/-! ### Fields an operation leaves as they were -/

@[simp] theorem exitPair_group (p : Pair) (r : ExitReason) (s : State) : (exitPair p r s).group = s.group := by
  simp only [exitPair]; split <;> simp

@[simp] theorem exitPair_sequencer (p : Pair) (r : ExitReason) (s : State) : (exitPair p r s).sequencer = s.sequencer := by
  simp only [exitPair]; split <;> simp

@[simp] theorem exitPair_holdQueue (p : Pair) (r : ExitReason) (s : State) : (exitPair p r s).holdQueue = s.holdQueue := by
  simp only [exitPair]; split <;> simp

@[simp] theorem exitPair_release (p : Pair) (r : ExitReason) (s : State) : (exitPair p r s).release = s.release := by
  simp only [exitPair]; split <;> simp

@[simp] theorem exitPair_timeBase (p : Pair) (r : ExitReason) (s : State) : (exitPair p r s).timeBase = s.timeBase := by
  simp only [exitPair]; split <;> simp

@[simp] theorem exitPair_pending (p : Pair) (r : ExitReason) (s : State) : (exitPair p r s).pending = s.pending := by
  simp only [exitPair]; split <;> simp

@[simp] theorem failTraining_port (p : Pair) (c : TrainCause) (s : State) : (failTraining p c s).port = s.port := by
  simp [failTraining]

@[simp] theorem failTraining_group (p : Pair) (c : TrainCause) (s : State) : (failTraining p c s).group = s.group := by
  simp [failTraining]

@[simp] theorem failTraining_sequencer (p : Pair) (c : TrainCause) (s : State) : (failTraining p c s).sequencer = s.sequencer := by
  simp [failTraining]

@[simp] theorem failTraining_holdQueue (p : Pair) (c : TrainCause) (s : State) : (failTraining p c s).holdQueue = s.holdQueue := by
  simp [failTraining]

@[simp] theorem failTraining_release (p : Pair) (c : TrainCause) (s : State) : (failTraining p c s).release = s.release := by
  simp [failTraining]

@[simp] theorem failTraining_timeBase (p : Pair) (c : TrainCause) (s : State) : (failTraining p c s).timeBase = s.timeBase := by
  simp [failTraining]

@[simp] theorem failTraining_pending (p : Pair) (c : TrainCause) (s : State) : (failTraining p c s).pending = s.pending := by
  simp [failTraining]

@[simp] theorem failQualify_port (p : Pair) (c : QualifyCause) (s : State) : (failQualify p c s).port = s.port := by
  simp [failQualify]

@[simp] theorem failQualify_group (p : Pair) (c : QualifyCause) (s : State) : (failQualify p c s).group = s.group := by
  simp [failQualify]

@[simp] theorem failQualify_sequencer (p : Pair) (c : QualifyCause) (s : State) : (failQualify p c s).sequencer = s.sequencer := by
  simp [failQualify]

@[simp] theorem failQualify_holdQueue (p : Pair) (c : QualifyCause) (s : State) : (failQualify p c s).holdQueue = s.holdQueue := by
  simp [failQualify]

@[simp] theorem failQualify_release (p : Pair) (c : QualifyCause) (s : State) : (failQualify p c s).release = s.release := by
  simp [failQualify]

@[simp] theorem failQualify_timeBase (p : Pair) (c : QualifyCause) (s : State) : (failQualify p c s).timeBase = s.timeBase := by
  simp [failQualify]

@[simp] theorem failQualify_pending (p : Pair) (c : QualifyCause) (s : State) : (failQualify p c s).pending = s.pending := by
  simp [failQualify]

@[simp] theorem enterService_group (p : Pair) (m : BitVec 6) (s : State) : (enterService p m s).group = s.group := by
  simp [enterService]

@[simp] theorem enterService_sequencer (p : Pair) (m : BitVec 6) (s : State) : (enterService p m s).sequencer = s.sequencer := by
  simp [enterService]

@[simp] theorem enterService_holdQueue (p : Pair) (m : BitVec 6) (s : State) : (enterService p m s).holdQueue = s.holdQueue := by
  simp [enterService]

@[simp] theorem enterService_release (p : Pair) (m : BitVec 6) (s : State) : (enterService p m s).release = s.release := by
  simp [enterService]

@[simp] theorem enterService_timeBase (p : Pair) (m : BitVec 6) (s : State) : (enterService p m s).timeBase = s.timeBase := by
  simp [enterService]

@[simp] theorem enterService_pending (p : Pair) (m : BitVec 6) (s : State) : (enterService p m s).pending = s.pending := by
  simp [enterService]

@[simp] theorem startWindDown_port (p : Pair) (r : WindDownReason) (s : State) : (startWindDown p r s).port = s.port := by
  rfl

@[simp] theorem startWindDown_group (p : Pair) (r : WindDownReason) (s : State) : (startWindDown p r s).group = s.group := by
  rfl

@[simp] theorem startWindDown_sequencer (p : Pair) (r : WindDownReason) (s : State) : (startWindDown p r s).sequencer = s.sequencer := by
  rfl

@[simp] theorem startWindDown_holdQueue (p : Pair) (r : WindDownReason) (s : State) : (startWindDown p r s).holdQueue = s.holdQueue := by
  rfl

@[simp] theorem startWindDown_release (p : Pair) (r : WindDownReason) (s : State) : (startWindDown p r s).release = s.release := by
  rfl

@[simp] theorem startWindDown_timeBase (p : Pair) (r : WindDownReason) (s : State) : (startWindDown p r s).timeBase = s.timeBase := by
  rfl

@[simp] theorem startWindDown_pending (p : Pair) (r : WindDownReason) (s : State) : (startWindDown p r s).pending = s.pending := by
  rfl

@[simp] theorem tryWindDownEnd_group (p : Pair) (s : State) : (tryWindDownEnd p s).group = s.group := by
  simp only [tryWindDownEnd]; split <;> simp

@[simp] theorem tryWindDownEnd_sequencer (p : Pair) (s : State) : (tryWindDownEnd p s).sequencer = s.sequencer := by
  simp only [tryWindDownEnd]; split <;> simp

@[simp] theorem tryWindDownEnd_holdQueue (p : Pair) (s : State) : (tryWindDownEnd p s).holdQueue = s.holdQueue := by
  simp only [tryWindDownEnd]; split <;> simp

@[simp] theorem tryWindDownEnd_release (p : Pair) (s : State) : (tryWindDownEnd p s).release = s.release := by
  simp only [tryWindDownEnd]; split <;> simp

@[simp] theorem tryWindDownEnd_timeBase (p : Pair) (s : State) : (tryWindDownEnd p s).timeBase = s.timeBase := by
  simp only [tryWindDownEnd]; split <;> simp

@[simp] theorem tryWindDownEnd_pending (p : Pair) (s : State) : (tryWindDownEnd p s).pending = s.pending := by
  simp only [tryWindDownEnd]; split <;> simp

@[simp] theorem burstResult_port (p : Pair) (c : Bool) (s : State) : (burstResult p c s).port = s.port := by
  simp only [burstResult]; (repeat' split) <;> simp

@[simp] theorem burstResult_group (p : Pair) (c : Bool) (s : State) : (burstResult p c s).group = s.group := by
  simp only [burstResult]; (repeat' split) <;> simp

@[simp] theorem burstResult_sequencer (p : Pair) (c : Bool) (s : State) : (burstResult p c s).sequencer = s.sequencer := by
  simp only [burstResult]; (repeat' split) <;> simp

@[simp] theorem burstResult_holdQueue (p : Pair) (c : Bool) (s : State) : (burstResult p c s).holdQueue = s.holdQueue := by
  simp only [burstResult]; (repeat' split) <;> simp

@[simp] theorem burstResult_release (p : Pair) (c : Bool) (s : State) : (burstResult p c s).release = s.release := by
  simp only [burstResult]; (repeat' split) <;> simp

@[simp] theorem burstResult_timeBase (p : Pair) (c : Bool) (s : State) : (burstResult p c s).timeBase = s.timeBase := by
  simp only [burstResult]; (repeat' split) <;> simp

@[simp] theorem burstResult_pending (p : Pair) (c : Bool) (s : State) : (burstResult p c s).pending = s.pending := by
  simp only [burstResult]; (repeat' split) <;> simp

@[simp] theorem chooseNext_port (p : Pair) (s : State) : (chooseNext p s).port = s.port := by
  simp only [chooseNext]; (repeat' split) <;> rfl

@[simp] theorem chooseNext_group (p : Pair) (s : State) : (chooseNext p s).group = s.group := by
  simp only [chooseNext]; (repeat' split) <;> rfl

@[simp] theorem chooseNext_sequencer (p : Pair) (s : State) : (chooseNext p s).sequencer = s.sequencer := by
  simp only [chooseNext]; (repeat' split) <;> rfl

@[simp] theorem chooseNext_holdQueue (p : Pair) (s : State) : (chooseNext p s).holdQueue = s.holdQueue := by
  simp only [chooseNext]; (repeat' split) <;> rfl

@[simp] theorem chooseNext_release (p : Pair) (s : State) : (chooseNext p s).release = s.release := by
  simp only [chooseNext]; (repeat' split) <;> rfl

@[simp] theorem chooseNext_timeBase (p : Pair) (s : State) : (chooseNext p s).timeBase = s.timeBase := by
  simp only [chooseNext]; (repeat' split) <;> rfl

@[simp] theorem chooseNext_pending (p : Pair) (s : State) : (chooseNext p s).pending = s.pending := by
  simp only [chooseNext]; (repeat' split) <;> rfl

@[simp] theorem fragEnds_group (p : Pair) (s : State) : (fragEnds p s).group = s.group := by
  simp only [fragEnds]; split <;> simp

@[simp] theorem fragEnds_sequencer (p : Pair) (s : State) : (fragEnds p s).sequencer = s.sequencer := by
  simp only [fragEnds]; split <;> simp

@[simp] theorem fragEnds_holdQueue (p : Pair) (s : State) : (fragEnds p s).holdQueue = s.holdQueue := by
  simp only [fragEnds]; split <;> simp

@[simp] theorem fragEnds_release (p : Pair) (s : State) : (fragEnds p s).release = s.release := by
  simp only [fragEnds]; split <;> simp

@[simp] theorem fragEnds_timeBase (p : Pair) (s : State) : (fragEnds p s).timeBase = s.timeBase := by
  simp only [fragEnds]; split <;> simp

@[simp] theorem fragEnds_pending (p : Pair) (s : State) : (fragEnds p s).pending = s.pending := by
  simp only [fragEnds]; split <;> simp

@[simp] theorem rateSwitchEnds_port (p : Pair) (r : Nat) (s : State) : (rateSwitchEnds p r s).port = s.port := by
  simp only [rateSwitchEnds]; (repeat' split) <;> simp

@[simp] theorem rateSwitchEnds_group (p : Pair) (r : Nat) (s : State) : (rateSwitchEnds p r s).group = s.group := by
  simp only [rateSwitchEnds]; (repeat' split) <;> simp

@[simp] theorem rateSwitchEnds_sequencer (p : Pair) (r : Nat) (s : State) : (rateSwitchEnds p r s).sequencer = s.sequencer := by
  simp only [rateSwitchEnds]; (repeat' split) <;> simp

@[simp] theorem rateSwitchEnds_holdQueue (p : Pair) (r : Nat) (s : State) : (rateSwitchEnds p r s).holdQueue = s.holdQueue := by
  simp only [rateSwitchEnds]; (repeat' split) <;> simp

@[simp] theorem rateSwitchEnds_release (p : Pair) (r : Nat) (s : State) : (rateSwitchEnds p r s).release = s.release := by
  simp only [rateSwitchEnds]; (repeat' split) <;> simp

@[simp] theorem rateSwitchEnds_timeBase (p : Pair) (r : Nat) (s : State) : (rateSwitchEnds p r s).timeBase = s.timeBase := by
  simp only [rateSwitchEnds]; (repeat' split) <;> simp

@[simp] theorem rateSwitchEnds_pending (p : Pair) (r : Nat) (s : State) : (rateSwitchEnds p r s).pending = s.pending := by
  simp only [rateSwitchEnds]; (repeat' split) <;> simp

@[simp] theorem ownLeaveEnds_group (p : Pair) (s : State) : (ownLeaveEnds p s).group = s.group := by
  simp only [ownLeaveEnds]; (repeat' split) <;> simp

@[simp] theorem ownLeaveEnds_sequencer (p : Pair) (s : State) : (ownLeaveEnds p s).sequencer = s.sequencer := by
  simp only [ownLeaveEnds]; (repeat' split) <;> simp

@[simp] theorem ownLeaveEnds_holdQueue (p : Pair) (s : State) : (ownLeaveEnds p s).holdQueue = s.holdQueue := by
  simp only [ownLeaveEnds]; (repeat' split) <;> simp

@[simp] theorem ownLeaveEnds_release (p : Pair) (s : State) : (ownLeaveEnds p s).release = s.release := by
  simp only [ownLeaveEnds]; (repeat' split) <;> simp

@[simp] theorem ownLeaveEnds_timeBase (p : Pair) (s : State) : (ownLeaveEnds p s).timeBase = s.timeBase := by
  simp only [ownLeaveEnds]; (repeat' split) <;> simp

@[simp] theorem ownLeaveEnds_pending (p : Pair) (s : State) : (ownLeaveEnds p s).pending = s.pending := by
  simp only [ownLeaveEnds]; (repeat' split) <;> simp

@[simp] theorem contentEnds_group (p : Pair) (c : TxContent) (s : State) : (contentEnds p c s).group = s.group := by
  simp only [contentEnds]; (repeat' split) <;> simp

@[simp] theorem contentEnds_sequencer (p : Pair) (c : TxContent) (s : State) : (contentEnds p c s).sequencer = s.sequencer := by
  simp only [contentEnds]; (repeat' split) <;> simp

@[simp] theorem contentEnds_holdQueue (p : Pair) (c : TxContent) (s : State) : (contentEnds p c s).holdQueue = s.holdQueue := by
  simp only [contentEnds]; (repeat' split) <;> simp

@[simp] theorem contentEnds_release (p : Pair) (c : TxContent) (s : State) : (contentEnds p c s).release = s.release := by
  simp only [contentEnds]; (repeat' split) <;> simp

@[simp] theorem contentEnds_timeBase (p : Pair) (c : TxContent) (s : State) : (contentEnds p c s).timeBase = s.timeBase := by
  simp only [contentEnds]; (repeat' split) <;> simp

@[simp] theorem contentEnds_pending (p : Pair) (c : TxContent) (s : State) : (contentEnds p c s).pending = s.pending := by
  simp only [contentEnds]; (repeat' split) <;> simp

@[simp] theorem frameEnds_group (p : Pair) (s : State) : (frameEnds p s).group = s.group := by
  simp only [frameEnds]; split <;> simp

@[simp] theorem frameEnds_sequencer (p : Pair) (s : State) : (frameEnds p s).sequencer = s.sequencer := by
  simp only [frameEnds]; split <;> simp

@[simp] theorem frameEnds_holdQueue (p : Pair) (s : State) : (frameEnds p s).holdQueue = s.holdQueue := by
  simp only [frameEnds]; split <;> simp

@[simp] theorem frameEnds_release (p : Pair) (s : State) : (frameEnds p s).release = s.release := by
  simp only [frameEnds]; split <;> simp

@[simp] theorem frameEnds_timeBase (p : Pair) (s : State) : (frameEnds p s).timeBase = s.timeBase := by
  simp only [frameEnds]; split <;> simp

@[simp] theorem frameEnds_pending (p : Pair) (s : State) : (frameEnds p s).pending = s.pending := by
  simp only [frameEnds]; split <;> simp

@[simp] theorem boundary_group (p : Pair) (s : State) : (boundary p s).group = s.group := by simp [boundary]

@[simp] theorem boundary_sequencer (p : Pair) (s : State) : (boundary p s).sequencer = s.sequencer := by simp [boundary]

@[simp] theorem boundary_holdQueue (p : Pair) (s : State) : (boundary p s).holdQueue = s.holdQueue := by simp [boundary]

@[simp] theorem boundary_release (p : Pair) (s : State) : (boundary p s).release = s.release := by simp [boundary]

@[simp] theorem boundary_timeBase (p : Pair) (s : State) : (boundary p s).timeBase = s.timeBase := by simp [boundary]

@[simp] theorem boundary_pending (p : Pair) (s : State) : (boundary p s).pending = s.pending := by simp [boundary]

@[simp] theorem endOf_group (is : TxContent → Bool) (p : Pair) (s : State) : (endOf is p s).group = s.group := by
  simp only [endOf]; (repeat' split) <;> simp

@[simp] theorem endOf_sequencer (is : TxContent → Bool) (p : Pair) (s : State) : (endOf is p s).sequencer = s.sequencer := by
  simp only [endOf]; (repeat' split) <;> simp

@[simp] theorem endOf_holdQueue (is : TxContent → Bool) (p : Pair) (s : State) : (endOf is p s).holdQueue = s.holdQueue := by
  simp only [endOf]; (repeat' split) <;> simp

@[simp] theorem endOf_release (is : TxContent → Bool) (p : Pair) (s : State) : (endOf is p s).release = s.release := by
  simp only [endOf]; (repeat' split) <;> simp

@[simp] theorem endOf_timeBase (is : TxContent → Bool) (p : Pair) (s : State) : (endOf is p s).timeBase = s.timeBase := by
  simp only [endOf]; (repeat' split) <;> simp

@[simp] theorem endOf_pending (is : TxContent → Bool) (p : Pair) (s : State) : (endOf is p s).pending = s.pending := by
  simp only [endOf]; (repeat' split) <;> simp

@[simp] theorem judgeLos_port (p : Pair) (d : Bool) (s : State) : (judgeLos p d s).port = s.port := by
  simp only [judgeLos]; split <;> simp

@[simp] theorem judgeLos_group (p : Pair) (d : Bool) (s : State) : (judgeLos p d s).group = s.group := by
  simp only [judgeLos]; split <;> simp

@[simp] theorem judgeLos_sequencer (p : Pair) (d : Bool) (s : State) : (judgeLos p d s).sequencer = s.sequencer := by
  simp only [judgeLos]; split <;> simp

@[simp] theorem judgeLos_holdQueue (p : Pair) (d : Bool) (s : State) : (judgeLos p d s).holdQueue = s.holdQueue := by
  simp only [judgeLos]; split <;> simp

@[simp] theorem judgeLos_release (p : Pair) (d : Bool) (s : State) : (judgeLos p d s).release = s.release := by
  simp only [judgeLos]; split <;> simp

@[simp] theorem judgeLos_timeBase (p : Pair) (d : Bool) (s : State) : (judgeLos p d s).timeBase = s.timeBase := by
  simp only [judgeLos]; split <;> simp

@[simp] theorem judgeLos_pending (p : Pair) (d : Bool) (s : State) : (judgeLos p d s).pending = s.pending := by
  simp only [judgeLos]; split <;> simp

@[simp] theorem judgeWindow_port (p : Pair) (d : Bool) (s : State) : (judgeWindow p d s).port = s.port := by
  simp only [judgeWindow]; (repeat' split) <;> simp

@[simp] theorem judgeWindow_group (p : Pair) (d : Bool) (s : State) : (judgeWindow p d s).group = s.group := by
  simp only [judgeWindow]; (repeat' split) <;> simp

@[simp] theorem judgeWindow_sequencer (p : Pair) (d : Bool) (s : State) : (judgeWindow p d s).sequencer = s.sequencer := by
  simp only [judgeWindow]; (repeat' split) <;> simp

@[simp] theorem judgeWindow_holdQueue (p : Pair) (d : Bool) (s : State) : (judgeWindow p d s).holdQueue = s.holdQueue := by
  simp only [judgeWindow]; (repeat' split) <;> simp

@[simp] theorem judgeWindow_release (p : Pair) (d : Bool) (s : State) : (judgeWindow p d s).release = s.release := by
  simp only [judgeWindow]; (repeat' split) <;> simp

@[simp] theorem judgeWindow_timeBase (p : Pair) (d : Bool) (s : State) : (judgeWindow p d s).timeBase = s.timeBase := by
  simp only [judgeWindow]; (repeat' split) <;> simp

@[simp] theorem judgeWindow_pending (p : Pair) (d : Bool) (s : State) : (judgeWindow p d s).pending = s.pending := by
  simp only [judgeWindow]; (repeat' split) <;> simp

@[simp] theorem servicePeriod_port (p : Pair) (s : State) : (servicePeriod p s).port = s.port := by
  simp only [servicePeriod]; split <;> simp

@[simp] theorem servicePeriod_group (p : Pair) (s : State) : (servicePeriod p s).group = s.group := by
  simp only [servicePeriod]; split <;> simp

@[simp] theorem servicePeriod_sequencer (p : Pair) (s : State) : (servicePeriod p s).sequencer = s.sequencer := by
  simp only [servicePeriod]; split <;> simp

@[simp] theorem servicePeriod_holdQueue (p : Pair) (s : State) : (servicePeriod p s).holdQueue = s.holdQueue := by
  simp only [servicePeriod]; split <;> simp

@[simp] theorem servicePeriod_release (p : Pair) (s : State) : (servicePeriod p s).release = s.release := by
  simp only [servicePeriod]; split <;> simp

@[simp] theorem servicePeriod_timeBase (p : Pair) (s : State) : (servicePeriod p s).timeBase = s.timeBase := by
  simp only [servicePeriod]; split <;> simp

@[simp] theorem servicePeriod_pending (p : Pair) (s : State) : (servicePeriod p s).pending = s.pending := by
  simp only [servicePeriod]; split <;> simp

@[simp] theorem actOnStreaks_port (p : Pair) (s : State) : (actOnStreaks p s).port = s.port := by
  simp only [actOnStreaks]; (repeat' split) <;> simp

@[simp] theorem actOnStreaks_group (p : Pair) (s : State) : (actOnStreaks p s).group = s.group := by
  simp only [actOnStreaks]; (repeat' split) <;> simp

@[simp] theorem actOnStreaks_sequencer (p : Pair) (s : State) : (actOnStreaks p s).sequencer = s.sequencer := by
  simp only [actOnStreaks]; (repeat' split) <;> simp

@[simp] theorem actOnStreaks_holdQueue (p : Pair) (s : State) : (actOnStreaks p s).holdQueue = s.holdQueue := by
  simp only [actOnStreaks]; (repeat' split) <;> simp

@[simp] theorem actOnStreaks_release (p : Pair) (s : State) : (actOnStreaks p s).release = s.release := by
  simp only [actOnStreaks]; (repeat' split) <;> simp

@[simp] theorem actOnStreaks_timeBase (p : Pair) (s : State) : (actOnStreaks p s).timeBase = s.timeBase := by
  simp only [actOnStreaks]; (repeat' split) <;> simp

@[simp] theorem actOnStreaks_pending (p : Pair) (s : State) : (actOnStreaks p s).pending = s.pending := by
  simp only [actOnStreaks]; (repeat' split) <;> simp

@[simp] theorem addBad_port (p : Pair) (n : Nat) (s : State) : (addBad p n s).port = s.port := by
  simp only [addBad]; split <;> simp

@[simp] theorem addBad_group (p : Pair) (n : Nat) (s : State) : (addBad p n s).group = s.group := by
  simp only [addBad]; split <;> simp

@[simp] theorem addBad_sequencer (p : Pair) (n : Nat) (s : State) : (addBad p n s).sequencer = s.sequencer := by
  simp only [addBad]; split <;> simp

@[simp] theorem addBad_holdQueue (p : Pair) (n : Nat) (s : State) : (addBad p n s).holdQueue = s.holdQueue := by
  simp only [addBad]; split <;> simp

@[simp] theorem addBad_release (p : Pair) (n : Nat) (s : State) : (addBad p n s).release = s.release := by
  simp only [addBad]; split <;> simp

@[simp] theorem addBad_timeBase (p : Pair) (n : Nat) (s : State) : (addBad p n s).timeBase = s.timeBase := by
  simp only [addBad]; split <;> simp

@[simp] theorem addBad_pending (p : Pair) (n : Nat) (s : State) : (addBad p n s).pending = s.pending := by
  simp only [addBad]; split <;> simp

@[simp] theorem checkCount_port (p : Pair) (f : Frame) (s : State) : (checkCount p f s).port = s.port := by
  simp only [checkCount]; (repeat' split) <;> simp

@[simp] theorem checkCount_group (p : Pair) (f : Frame) (s : State) : (checkCount p f s).group = s.group := by
  simp only [checkCount]; (repeat' split) <;> simp

@[simp] theorem checkCount_sequencer (p : Pair) (f : Frame) (s : State) : (checkCount p f s).sequencer = s.sequencer := by
  simp only [checkCount]; (repeat' split) <;> simp

@[simp] theorem checkCount_holdQueue (p : Pair) (f : Frame) (s : State) : (checkCount p f s).holdQueue = s.holdQueue := by
  simp only [checkCount]; (repeat' split) <;> simp

@[simp] theorem checkCount_release (p : Pair) (f : Frame) (s : State) : (checkCount p f s).release = s.release := by
  simp only [checkCount]; (repeat' split) <;> simp

@[simp] theorem checkCount_timeBase (p : Pair) (f : Frame) (s : State) : (checkCount p f s).timeBase = s.timeBase := by
  simp only [checkCount]; (repeat' split) <;> simp

@[simp] theorem checkCount_pending (p : Pair) (f : Frame) (s : State) : (checkCount p f s).pending = s.pending := by
  simp only [checkCount]; (repeat' split) <;> simp

@[simp] theorem badFrame_port (p : Pair) (s : State) : (badFrame p s).port = s.port := by
  simp only [badFrame]; split <;> simp

@[simp] theorem badFrame_group (p : Pair) (s : State) : (badFrame p s).group = s.group := by
  simp only [badFrame]; split <;> simp

@[simp] theorem badFrame_sequencer (p : Pair) (s : State) : (badFrame p s).sequencer = s.sequencer := by
  simp only [badFrame]; split <;> simp

@[simp] theorem badFrame_holdQueue (p : Pair) (s : State) : (badFrame p s).holdQueue = s.holdQueue := by
  simp only [badFrame]; split <;> simp

@[simp] theorem badFrame_release (p : Pair) (s : State) : (badFrame p s).release = s.release := by
  simp only [badFrame]; split <;> simp

@[simp] theorem badFrame_timeBase (p : Pair) (s : State) : (badFrame p s).timeBase = s.timeBase := by
  simp only [badFrame]; split <;> simp

@[simp] theorem badFrame_pending (p : Pair) (s : State) : (badFrame p s).pending = s.pending := by
  simp only [badFrame]; split <;> simp

@[simp] theorem fragReceived_port (p : Pair) (f : Frame) (s : State) : (fragReceived p f s).port = s.port := by
  rfl

@[simp] theorem fragReceived_group (p : Pair) (f : Frame) (s : State) : (fragReceived p f s).group = s.group := by
  rfl

@[simp] theorem fragReceived_sequencer (p : Pair) (f : Frame) (s : State) : (fragReceived p f s).sequencer = s.sequencer := by
  rfl

@[simp] theorem fragReceived_holdQueue (p : Pair) (f : Frame) (s : State) : (fragReceived p f s).holdQueue = s.holdQueue := by
  rfl

@[simp] theorem fragReceived_release (p : Pair) (f : Frame) (s : State) : (fragReceived p f s).release = s.release := by
  rfl

@[simp] theorem fragReceived_timeBase (p : Pair) (f : Frame) (s : State) : (fragReceived p f s).timeBase = s.timeBase := by
  rfl

@[simp] theorem fragReceived_pending (p : Pair) (f : Frame) (s : State) : (fragReceived p f s).pending = s.pending := by
  rfl

@[simp] theorem firstParams_port (p : Pair) (f : Frame) (s : State) : (firstParams p f s).port = s.port := by
  simp only [firstParams]; (repeat' split) <;> simp

@[simp] theorem firstParams_group (p : Pair) (f : Frame) (s : State) : (firstParams p f s).group = s.group := by
  simp only [firstParams]; (repeat' split) <;> simp

@[simp] theorem firstParams_sequencer (p : Pair) (f : Frame) (s : State) : (firstParams p f s).sequencer = s.sequencer := by
  simp only [firstParams]; (repeat' split) <;> simp

@[simp] theorem firstParams_holdQueue (p : Pair) (f : Frame) (s : State) : (firstParams p f s).holdQueue = s.holdQueue := by
  simp only [firstParams]; (repeat' split) <;> simp

@[simp] theorem firstParams_release (p : Pair) (f : Frame) (s : State) : (firstParams p f s).release = s.release := by
  simp only [firstParams]; (repeat' split) <;> simp

@[simp] theorem firstParams_timeBase (p : Pair) (f : Frame) (s : State) : (firstParams p f s).timeBase = s.timeBase := by
  simp only [firstParams]; (repeat' split) <;> simp

@[simp] theorem firstParams_pending (p : Pair) (f : Frame) (s : State) : (firstParams p f s).pending = s.pending := by
  simp only [firstParams]; (repeat' split) <;> simp

@[simp] theorem trainParams_port (p : Pair) (f : Frame) (s : State) : (trainParams p f s).port = s.port := by
  simp only [trainParams]; (repeat' split) <;> simp

@[simp] theorem trainParams_group (p : Pair) (f : Frame) (s : State) : (trainParams p f s).group = s.group := by
  simp only [trainParams]; (repeat' split) <;> simp

@[simp] theorem trainParams_sequencer (p : Pair) (f : Frame) (s : State) : (trainParams p f s).sequencer = s.sequencer := by
  simp only [trainParams]; (repeat' split) <;> simp

@[simp] theorem trainParams_holdQueue (p : Pair) (f : Frame) (s : State) : (trainParams p f s).holdQueue = s.holdQueue := by
  simp only [trainParams]; (repeat' split) <;> simp

@[simp] theorem trainParams_release (p : Pair) (f : Frame) (s : State) : (trainParams p f s).release = s.release := by
  simp only [trainParams]; (repeat' split) <;> simp

@[simp] theorem trainParams_timeBase (p : Pair) (f : Frame) (s : State) : (trainParams p f s).timeBase = s.timeBase := by
  simp only [trainParams]; (repeat' split) <;> simp

@[simp] theorem trainParams_pending (p : Pair) (f : Frame) (s : State) : (trainParams p f s).pending = s.pending := by
  simp only [trainParams]; (repeat' split) <;> simp

@[simp] theorem addGood_group (p : Pair) (m : BitVec 6) (s : State) : (addGood p m s).group = s.group := by
  simp only [addGood]; (repeat' split) <;> simp

@[simp] theorem addGood_sequencer (p : Pair) (m : BitVec 6) (s : State) : (addGood p m s).sequencer = s.sequencer := by
  simp only [addGood]; (repeat' split) <;> simp

@[simp] theorem addGood_holdQueue (p : Pair) (m : BitVec 6) (s : State) : (addGood p m s).holdQueue = s.holdQueue := by
  simp only [addGood]; (repeat' split) <;> simp

@[simp] theorem addGood_release (p : Pair) (m : BitVec 6) (s : State) : (addGood p m s).release = s.release := by
  simp only [addGood]; (repeat' split) <;> simp

@[simp] theorem addGood_timeBase (p : Pair) (m : BitVec 6) (s : State) : (addGood p m s).timeBase = s.timeBase := by
  simp only [addGood]; (repeat' split) <;> simp

@[simp] theorem addGood_pending (p : Pair) (m : BitVec 6) (s : State) : (addGood p m s).pending = s.pending := by
  simp only [addGood]; (repeat' split) <;> simp

@[simp] theorem countLeave_port (p : Pair) (s : State) : (countLeave p s).port = s.port := by
  rfl

@[simp] theorem countLeave_group (p : Pair) (s : State) : (countLeave p s).group = s.group := by
  rfl

@[simp] theorem countLeave_sequencer (p : Pair) (s : State) : (countLeave p s).sequencer = s.sequencer := by
  rfl

@[simp] theorem countLeave_lines (p : Pair) (s : State) : (countLeave p s).lines = s.lines := by
  rfl

@[simp] theorem countLeave_holdQueue (p : Pair) (s : State) : (countLeave p s).holdQueue = s.holdQueue := by
  rfl

@[simp] theorem countLeave_release (p : Pair) (s : State) : (countLeave p s).release = s.release := by
  rfl

@[simp] theorem countLeave_timeBase (p : Pair) (s : State) : (countLeave p s).timeBase = s.timeBase := by
  rfl

@[simp] theorem countLeave_pending (p : Pair) (s : State) : (countLeave p s).pending = s.pending := by
  rfl

@[simp] theorem actLeave_group (p : Pair) (s : State) : (actLeave p s).group = s.group := by
  simp only [actLeave]; (repeat' split) <;> simp

@[simp] theorem actLeave_sequencer (p : Pair) (s : State) : (actLeave p s).sequencer = s.sequencer := by
  simp only [actLeave]; (repeat' split) <;> simp

@[simp] theorem actLeave_holdQueue (p : Pair) (s : State) : (actLeave p s).holdQueue = s.holdQueue := by
  simp only [actLeave]; (repeat' split) <;> simp

@[simp] theorem actLeave_release (p : Pair) (s : State) : (actLeave p s).release = s.release := by
  simp only [actLeave]; (repeat' split) <;> simp

@[simp] theorem actLeave_timeBase (p : Pair) (s : State) : (actLeave p s).timeBase = s.timeBase := by
  simp only [actLeave]; (repeat' split) <;> simp

@[simp] theorem actLeave_pending (p : Pair) (s : State) : (actLeave p s).pending = s.pending := by
  simp only [actLeave]; (repeat' split) <;> simp

@[simp] theorem actFrag_group (p : Pair) (f : Frame) (s : State) : (actFrag p f s).group = s.group := by
  simp only [actFrag]; (repeat' split) <;> simp

@[simp] theorem actFrag_sequencer (p : Pair) (f : Frame) (s : State) : (actFrag p f s).sequencer = s.sequencer := by
  simp only [actFrag]; (repeat' split) <;> simp

@[simp] theorem actFrag_timeBase (p : Pair) (f : Frame) (s : State) : (actFrag p f s).timeBase = s.timeBase := by
  simp only [actFrag]; (repeat' split) <;> simp

@[simp] theorem actFrag_pending (p : Pair) (f : Frame) (s : State) : (actFrag p f s).pending = s.pending := by
  simp only [actFrag]; (repeat' split) <;> simp

end Sys2Proof.Machine
end

