-- ==== Sys2Proof/Laws/OtherPairs.lean ====
section
/-! SUPPORT. The line units of the other pairs: an operation of pair `p` leaves the line unit of every other pair as it
was. -/

namespace Sys2Proof.Machine

set_option linter.unusedSimpArgs false

@[simp] theorem line_recordEvent (k : EventKind) (a b : Nat) (s : State) (r : Pair) : line (recordEvent k a b s) r = line s r := by
  simp [line]

@[simp] theorem line_placeSkip (s : State) (r : Pair) : line (placeSkip s) r = line s r := by
  simp [line]

@[simp] theorem line_evidenceSkip (s : State) (r : Pair) : line (evidenceSkip s) r = line s r := by
  simp [line]

@[simp] theorem line_tryRelease (s : State) (r : Pair) : line (tryRelease s) r = line s r := by
  simp [line]

@[simp] theorem line_purge (s : State) (r : Pair) : line (purge s) r = line s r := by
  simp [line]

@[simp] theorem line_placeRebase (q : Seq) (s : State) (r : Pair) : line (placeRebase q s) r = line s r := by
  simp [line]

@[simp] theorem line_countLost (s : State) (r : Pair) : line (countLost s) r = line s r := by
  simp [line]

@[simp] theorem line_closeNoClaim (s : State) (r : Pair) : line (closeNoClaim s) r = line s r := by
  simp [line]

@[simp] theorem line_closeByOther (s : State) (r : Pair) : line (closeByOther s) r = line s r := by
  simp [line]

@[simp] theorem line_countEAdoption (q : Seq) (s : State) (r : Pair) : line (countEAdoption q s) r = line s r := by
  simp [line]

@[simp] theorem line_holdTurnsOn (s : State) (r : Pair) : line (holdTurnsOn s) r = line s r := by
  simp [line]

@[simp] theorem line_holdTurnsOff (s : State) (r : Pair) : line (holdTurnsOff s) r = line s r := by
  simp [line]

@[simp] theorem line_moveE (s : State) (r : Pair) : line (moveE s) r = line s r := by
  simp [line]

@[simp] theorem line_runawayUp (q : Seq) (s : State) (r : Pair) : line (runawayUp q s) r = line s r := by
  simp [line]

@[simp] theorem line_storeAtFull (e : Seq) (x : HoldEntry) (s : State) (r : Pair) : line (storeAtFull e x s) r = line s r := by
  simp [line]

@[simp] theorem line_classifyArrival (e : Seq) (x : HoldEntry) (s : State) (r : Pair) : line (classifyArrival e x s) r = line s r := by
  simp [line]

@[simp] theorem line_skipTimerAtArrival (b : Bool) (s : State) (r : Pair) : line (skipTimerAtArrival b s) r = line s r := by
  simp [line]

@[simp] theorem line_holdArrival (x : HoldEntry) (s : State) (r : Pair) : line (holdArrival x s) r = line s r := by
  simp [line]

@[simp] theorem line_releaseDropped (blk : BusBlock) (s : State) (r : Pair) : line (releaseDropped blk s) r = line s r := by
  simp [line]

@[simp] theorem line_skipDropped (s : State) (r : Pair) : line (skipDropped s) r = line s r := by
  simp [line]

@[simp] theorem line_blockDropped (x : OnLine) (s : State) (r : Pair) : line (blockDropped x s) r = line s r := by
  simp [line]

@[simp] theorem line_attemptFailed (x : OnLine) (s : State) (r : Pair) : line (attemptFailed x s) r = line s r := by
  simp [line]

@[simp] theorem line_countLeave (p : Pair) (s : State) (r : Pair) : line (countLeave p s) r = line s r := by
  simp [line]

theorem line_exitPair_other {p r' : Pair} (r : ExitReason) (s : State) (h : r' ≠ p) :
    line (exitPair p r s) r' = line s r' := by
  simp only [exitPair]; split <;> simp [h, line_setLine_other, line_modLine_other]

theorem line_failTraining_other {p r' : Pair} (c : TrainCause) (s : State) (h : r' ≠ p) :
    line (failTraining p c s) r' = line s r' := by
  simp [failTraining, h, line_setLine_other, line_modLine_other]

theorem line_failQualify_other {p r' : Pair} (c : QualifyCause) (s : State) (h : r' ≠ p) :
    line (failQualify p c s) r' = line s r' := by
  simp [failQualify, h, line_setLine_other, line_modLine_other]

theorem line_enterService_other {p r' : Pair} (m : BitVec 6) (s : State) (h : r' ≠ p) :
    line (enterService p m s) r' = line s r' := by
  simp [enterService, h, line_setLine_other, line_modLine_other]

theorem line_startWindDown_other {p r' : Pair} (r : WindDownReason) (s : State) (h : r' ≠ p) :
    line (startWindDown p r s) r' = line s r' := by
  simp [startWindDown, h, line_setLine_other, line_modLine_other]

theorem line_tryWindDownEnd_other {p r' : Pair} (s : State) (h : r' ≠ p) :
    line (tryWindDownEnd p s) r' = line s r' := by
  simp only [tryWindDownEnd]; split <;> simp [h, line_setLine_other, line_modLine_other, line_exitPair_other, line_failTraining_other, line_failQualify_other, line_enterService_other, line_startWindDown_other]

theorem line_burstResult_other {p r' : Pair} (c : Bool) (s : State) (h : r' ≠ p) :
    line (burstResult p c s) r' = line s r' := by
  simp only [burstResult]; (repeat' split) <;> simp [h, line_setLine_other, line_modLine_other, line_exitPair_other, line_failTraining_other, line_failQualify_other, line_enterService_other, line_startWindDown_other, line_tryWindDownEnd_other]

theorem line_chooseNext_other {p r' : Pair} (s : State) (h : r' ≠ p) :
    line (chooseNext p s) r' = line s r' := by
  simp only [chooseNext]; (repeat' split) <;> simp [h, line_setLine_other, line_modLine_other, line_exitPair_other, line_failTraining_other, line_failQualify_other, line_enterService_other, line_startWindDown_other, line_tryWindDownEnd_other, line_burstResult_other]

theorem line_fragEnds_other {p r' : Pair} (s : State) (h : r' ≠ p) :
    line (fragEnds p s) r' = line s r' := by
  simp only [fragEnds]; split <;> simp [h, line_setLine_other, line_modLine_other, line_exitPair_other, line_failTraining_other, line_failQualify_other, line_enterService_other, line_startWindDown_other, line_tryWindDownEnd_other, line_burstResult_other, line_chooseNext_other]

theorem line_rateSwitchEnds_other {p r' : Pair} (r : Nat) (s : State) (h : r' ≠ p) :
    line (rateSwitchEnds p r s) r' = line s r' := by
  simp only [rateSwitchEnds]; (repeat' split) <;> simp [h, line_setLine_other, line_modLine_other, line_exitPair_other, line_failTraining_other, line_failQualify_other, line_enterService_other, line_startWindDown_other, line_tryWindDownEnd_other, line_burstResult_other, line_chooseNext_other, line_fragEnds_other]

theorem line_ownLeaveEnds_other {p r' : Pair} (s : State) (h : r' ≠ p) :
    line (ownLeaveEnds p s) r' = line s r' := by
  simp only [ownLeaveEnds]; (repeat' split) <;> simp [h, line_setLine_other, line_modLine_other, line_exitPair_other, line_failTraining_other, line_failQualify_other, line_enterService_other, line_startWindDown_other, line_tryWindDownEnd_other, line_burstResult_other, line_chooseNext_other, line_fragEnds_other, line_rateSwitchEnds_other]

theorem line_contentEnds_other {p r' : Pair} (c : TxContent) (s : State) (h : r' ≠ p) :
    line (contentEnds p c s) r' = line s r' := by
  simp only [contentEnds]; (repeat' split) <;> simp [h, line_setLine_other, line_modLine_other, line_exitPair_other, line_failTraining_other, line_failQualify_other, line_enterService_other, line_startWindDown_other, line_tryWindDownEnd_other, line_burstResult_other, line_chooseNext_other, line_fragEnds_other, line_rateSwitchEnds_other, line_ownLeaveEnds_other]

theorem line_frameEnds_other {p r' : Pair} (s : State) (h : r' ≠ p) :
    line (frameEnds p s) r' = line s r' := by
  simp only [frameEnds]; split <;> simp [h, line_modLine_other, line_contentEnds_other]

theorem line_boundary_other {p r' : Pair} (s : State) (h : r' ≠ p) :
    line (boundary p s) r' = line s r' := by
  simp [boundary, h, line_chooseNext_other, line_frameEnds_other]

theorem line_endOf_other (is : TxContent → Bool) {p r' : Pair} (s : State) (h : r' ≠ p) :
    line (endOf is p s) r' = line s r' := by
  simp only [endOf]; (repeat' split) <;> simp [h, line_frameEnds_other]

theorem line_judgeLos_other {p r' : Pair} (d : Bool) (s : State) (h : r' ≠ p) :
    line (judgeLos p d s) r' = line s r' := by
  simp only [judgeLos]; split <;> simp [h, line_setLine_other, line_modLine_other, line_exitPair_other, line_failTraining_other, line_failQualify_other, line_enterService_other, line_startWindDown_other, line_tryWindDownEnd_other, line_burstResult_other, line_chooseNext_other, line_fragEnds_other, line_rateSwitchEnds_other, line_ownLeaveEnds_other, line_contentEnds_other, line_boundary_other, line_endOf_other]

theorem line_judgeWindow_other {p r' : Pair} (d : Bool) (s : State) (h : r' ≠ p) :
    line (judgeWindow p d s) r' = line s r' := by
  simp only [judgeWindow]; (repeat' split) <;> simp [h, line_setLine_other, line_modLine_other, line_exitPair_other, line_failTraining_other, line_failQualify_other, line_enterService_other, line_startWindDown_other, line_tryWindDownEnd_other, line_burstResult_other, line_chooseNext_other, line_fragEnds_other, line_rateSwitchEnds_other, line_ownLeaveEnds_other, line_contentEnds_other, line_boundary_other, line_endOf_other, line_judgeLos_other]

theorem line_servicePeriod_other {p r' : Pair} (s : State) (h : r' ≠ p) :
    line (servicePeriod p s) r' = line s r' := by
  simp only [servicePeriod]; split <;> simp [h, line_setLine_other, line_modLine_other, line_exitPair_other, line_failTraining_other, line_failQualify_other, line_enterService_other, line_startWindDown_other, line_tryWindDownEnd_other, line_burstResult_other, line_chooseNext_other, line_fragEnds_other, line_rateSwitchEnds_other, line_ownLeaveEnds_other, line_contentEnds_other, line_boundary_other, line_endOf_other, line_judgeLos_other, line_judgeWindow_other]

theorem line_actOnStreaks_other {p r' : Pair} (s : State) (h : r' ≠ p) :
    line (actOnStreaks p s) r' = line s r' := by
  simp only [actOnStreaks]; (repeat' split) <;> simp [h, line_setLine_other, line_modLine_other, line_exitPair_other, line_failTraining_other, line_failQualify_other, line_enterService_other, line_startWindDown_other, line_tryWindDownEnd_other, line_burstResult_other, line_chooseNext_other, line_fragEnds_other, line_rateSwitchEnds_other, line_ownLeaveEnds_other, line_contentEnds_other, line_boundary_other, line_endOf_other, line_judgeLos_other, line_judgeWindow_other, line_servicePeriod_other]

theorem line_addBad_other {p r' : Pair} (n : Nat) (s : State) (h : r' ≠ p) :
    line (addBad p n s) r' = line s r' := by
  simp only [addBad]; split <;> simp [h, line_setLine_other, line_modLine_other, line_exitPair_other, line_failTraining_other, line_failQualify_other, line_enterService_other, line_startWindDown_other, line_tryWindDownEnd_other, line_burstResult_other, line_chooseNext_other, line_fragEnds_other, line_rateSwitchEnds_other, line_ownLeaveEnds_other, line_contentEnds_other, line_boundary_other, line_endOf_other, line_judgeLos_other, line_judgeWindow_other, line_servicePeriod_other, line_actOnStreaks_other]

theorem line_checkCount_other {p r' : Pair} (f : Frame) (s : State) (h : r' ≠ p) :
    line (checkCount p f s) r' = line s r' := by
  simp only [checkCount]; (repeat' split) <;> simp [h, line_setLine_other, line_modLine_other, line_exitPair_other, line_failTraining_other, line_failQualify_other, line_enterService_other, line_startWindDown_other, line_tryWindDownEnd_other, line_burstResult_other, line_chooseNext_other, line_fragEnds_other, line_rateSwitchEnds_other, line_ownLeaveEnds_other, line_contentEnds_other, line_boundary_other, line_endOf_other, line_judgeLos_other, line_judgeWindow_other, line_servicePeriod_other, line_actOnStreaks_other, line_addBad_other]

theorem line_badFrame_other {p r' : Pair} (s : State) (h : r' ≠ p) :
    line (badFrame p s) r' = line s r' := by
  simp only [badFrame]; split <;> simp [h, line_setLine_other, line_modLine_other, line_exitPair_other, line_failTraining_other, line_failQualify_other, line_enterService_other, line_startWindDown_other, line_tryWindDownEnd_other, line_burstResult_other, line_chooseNext_other, line_fragEnds_other, line_rateSwitchEnds_other, line_ownLeaveEnds_other, line_contentEnds_other, line_boundary_other, line_endOf_other, line_judgeLos_other, line_judgeWindow_other, line_servicePeriod_other, line_actOnStreaks_other, line_addBad_other, line_checkCount_other]

theorem line_fragReceived_other {p r' : Pair} (f : Frame) (s : State) (h : r' ≠ p) :
    line (fragReceived p f s) r' = line s r' := by
  simp [fragReceived, h, line_setLine_other, line_modLine_other]

theorem line_firstParams_other {p r' : Pair} (f : Frame) (s : State) (h : r' ≠ p) :
    line (firstParams p f s) r' = line s r' := by
  simp only [firstParams]; (repeat' split) <;> simp [h, line_setLine_other, line_modLine_other, line_exitPair_other, line_failTraining_other, line_failQualify_other, line_enterService_other, line_startWindDown_other, line_tryWindDownEnd_other, line_burstResult_other, line_chooseNext_other, line_fragEnds_other, line_rateSwitchEnds_other, line_ownLeaveEnds_other, line_contentEnds_other, line_boundary_other, line_endOf_other, line_judgeLos_other, line_judgeWindow_other, line_servicePeriod_other, line_actOnStreaks_other, line_addBad_other, line_checkCount_other, line_badFrame_other, line_fragReceived_other]

theorem line_trainParams_other {p r' : Pair} (f : Frame) (s : State) (h : r' ≠ p) :
    line (trainParams p f s) r' = line s r' := by
  simp only [trainParams]; (repeat' split) <;> simp [h, line_setLine_other, line_modLine_other, line_exitPair_other, line_failTraining_other, line_failQualify_other, line_enterService_other, line_startWindDown_other, line_tryWindDownEnd_other, line_burstResult_other, line_chooseNext_other, line_fragEnds_other, line_rateSwitchEnds_other, line_ownLeaveEnds_other, line_contentEnds_other, line_boundary_other, line_endOf_other, line_judgeLos_other, line_judgeWindow_other, line_servicePeriod_other, line_actOnStreaks_other, line_addBad_other, line_checkCount_other, line_badFrame_other, line_fragReceived_other, line_firstParams_other]

theorem line_addGood_other {p r' : Pair} (m : BitVec 6) (s : State) (h : r' ≠ p) :
    line (addGood p m s) r' = line s r' := by
  simp only [addGood]; (repeat' split) <;> simp [h, line_setLine_other, line_modLine_other, line_exitPair_other, line_failTraining_other, line_failQualify_other, line_enterService_other, line_startWindDown_other, line_tryWindDownEnd_other, line_burstResult_other, line_chooseNext_other, line_fragEnds_other, line_rateSwitchEnds_other, line_ownLeaveEnds_other, line_contentEnds_other, line_boundary_other, line_endOf_other, line_judgeLos_other, line_judgeWindow_other, line_servicePeriod_other, line_actOnStreaks_other, line_addBad_other, line_checkCount_other, line_badFrame_other, line_fragReceived_other, line_firstParams_other, line_trainParams_other]

theorem line_actLeave_other {p r' : Pair} (s : State) (h : r' ≠ p) :
    line (actLeave p s) r' = line s r' := by
  simp only [actLeave]; split <;> simp [h, line_setLine_other, line_modLine_other, line_exitPair_other, line_failTraining_other, line_failQualify_other, line_enterService_other, line_startWindDown_other, line_tryWindDownEnd_other, line_burstResult_other, line_chooseNext_other, line_fragEnds_other, line_rateSwitchEnds_other, line_ownLeaveEnds_other, line_contentEnds_other, line_boundary_other, line_endOf_other, line_judgeLos_other, line_judgeWindow_other, line_servicePeriod_other, line_actOnStreaks_other, line_addBad_other, line_checkCount_other, line_badFrame_other, line_fragReceived_other, line_firstParams_other, line_trainParams_other, line_addGood_other]

theorem line_actFrag_other {p r' : Pair} (f : Frame) (s : State) (h : r' ≠ p) :
    line (actFrag p f s) r' = line s r' := by
  simp only [actFrag]; (repeat' split) <;> simp [h, line_setLine_other, line_modLine_other, line_exitPair_other, line_failTraining_other, line_failQualify_other, line_enterService_other, line_startWindDown_other, line_tryWindDownEnd_other, line_burstResult_other, line_chooseNext_other, line_fragEnds_other, line_rateSwitchEnds_other, line_ownLeaveEnds_other, line_contentEnds_other, line_boundary_other, line_endOf_other, line_judgeLos_other, line_judgeWindow_other, line_servicePeriod_other, line_actOnStreaks_other, line_addBad_other, line_checkCount_other, line_badFrame_other, line_fragReceived_other, line_firstParams_other, line_trainParams_other, line_addGood_other, line_actLeave_other]

/-! ### The choices still due, and the tick -/

@[simp] theorem chooseDue_port (s : State) : (chooseDue s).port = s.port := by simp [chooseDue, allPairs]
@[simp] theorem chooseDue_group (s : State) : (chooseDue s).group = s.group := by simp [chooseDue, allPairs]
@[simp] theorem chooseDue_sequencer (s : State) : (chooseDue s).sequencer = s.sequencer := by simp [chooseDue, allPairs]
@[simp] theorem chooseDue_holdQueue (s : State) : (chooseDue s).holdQueue = s.holdQueue := by simp [chooseDue, allPairs]
@[simp] theorem chooseDue_release (s : State) : (chooseDue s).release = s.release := by simp [chooseDue, allPairs]
@[simp] theorem chooseDue_timeBase (s : State) : (chooseDue s).timeBase = s.timeBase := by simp [chooseDue, allPairs]
@[simp] theorem chooseDue_pending (s : State) : (chooseDue s).pending = s.pending := by simp [chooseDue, allPairs]

/-- R69: the line unit after its choice: as it was with a frame on the pair, and otherwise with the frame chosen. -/
theorem line_chooseNext_same (p : Pair) (s : State) :
    line (chooseNext p s) p = if (line s p).tx.isSome then line s p else chooseLine s (line s p) := by
  simp only [chooseNext]; (repeat' split) <;> simp_all

/-- R72: a choice leaves the status unit as it was, but that an IDLE it starts is counted. -/
theorem chooseNext_status (p : Pair) (s : State) :
    (chooseNext p s).status =
      if (line s p).tx.isNone && txIsIdle (chooseLine s (line s p)) then
        (countPair p (fun c => { c with idleFrames := c.idleFrames + 1 }) s).status
      else s.status := by
  simp only [chooseNext]
  cases (line s p).tx
  · simp only [Option.isSome_none, Bool.false_eq_true, ↓reduceIte, Option.isNone_none, Bool.true_and]
    split <;> rfl
  · simp

/-- The choice of a line unit reads the start record and the time base, and nothing else of the state. -/
theorem chooseLine_congr {s t : State} (hc : config t = config s) (ht : t.timeBase = s.timeBase) (u : LineUnit) :
    chooseLine t u = chooseLine s u := by
  unfold chooseLine chooseTrain trainFill
  simp only [hc, ht]

theorem chooseLine_chooseNext (p : Pair) (s : State) (u : LineUnit) : chooseLine (chooseNext p s) u = chooseLine s u :=
  chooseLine_congr (by simp [config]) (by simp) u

/-- R68: every line unit with no frame on its pair has made its choice, and every other is as it was. -/
theorem line_chooseDue (s : State) (p : Pair) :
    line (chooseDue s) p = if (line s p).tx.isSome then line s p else chooseLine s (line s p) := by
  cases p <;>
    simp [chooseDue, allPairs, line_chooseNext_same, line_chooseNext_other, chooseLine_chooseNext]

@[simp] theorem tick_port (s : State) : (tick s).port = s.port := by simp [tick]
@[simp] theorem tick_sequencer (s : State) : (tick s).sequencer = s.sequencer := by simp [tick]
@[simp] theorem tick_holdQueue (s : State) : (tick s).holdQueue = s.holdQueue := by simp [tick]
@[simp] theorem tick_pending (s : State) : (tick s).pending = s.pending := by simp [tick]

/-- A microsecond passes for a line unit that has made the choice due. -/
theorem line_tick (s : State) (p : Pair) :
    line (tick s) p = tickLine (if (line s p).tx.isSome then line s p else chooseLine s (line s p)) := by
  simp [tick, line_chooseDue]

/-! ### A pair at the entry to CONFLICT (R33, R76, R123, R125) -/

theorem exitLine_conflict (s t : State) (u : LineUnit) : exitLine .conflict s u = exitLine .conflict t u := by
  simp [exitLine]

theorem line_conflictPair_same (p : Pair) (s : State) :
    line (conflictPair p s) p =
      if inService (line s p) then
        if ownLeaveOnPair (line s p) then deferExit .conflict (line s p) else exitLine .conflict s (line s p)
      else conflictLine (line s p) := by
  simp only [conflictPair]; split
  · split
    · simp
    · simp [exitPair]
  · simp

theorem line_conflictPair_other {p r : Pair} (s : State) (h : r ≠ p) : line (conflictPair p s) r = line s r := by
  simp only [conflictPair]; split
  · split
    · simp [line_modLine_other, h]
    · simp [line_exitPair_other, h]
  · simp [line_setLine_other, h]

theorem conflictPair_status (p : Pair) (s : State) :
    (conflictPair p s).status =
      if inService (line s p) && !ownLeaveOnPair (line s p) then
        (recordEvent .leftService (pairIndex p) 4
          (countPair p (fun c => { c with discarded := c.discarded + BitVec.ofNat 32 (line s p).queue.length }) s)).status
      else s.status := by
  simp only [conflictPair]; split
  · rename_i h
    split
    · rename_i h2; simp [h, h2]
    · rename_i h2
      by_cases hf : s.status.frozen = true <;> simp [h, h2, exitPair, exitCode, recordEvent, countPair, hf]
  · rename_i h; simp [h]

/-- At a station that is not ACTIVE the entry touches line units and the status unit, and nothing else. -/
theorem conflictPair_frame (p : Pair) (s : State) (h : isActive s = false) :
    conflictPair p s = { s with lines := (conflictPair p s).lines, status := (conflictPair p s).status } := by
  simp only [conflictPair]; split
  · split
    · rfl
    · simp only [exitPair, evidenceSkip]
      simp only [recordEvent]
      by_cases hf : s.status.frozen = true <;> simp [isActive, countPair, setLine, hf] at h ⊢ <;> simp [h]
  · rfl

end Sys2Proof.Machine
end

