-- ==== Sys2Proof/Laws/Frames.lean ====
section
/-! SUPPORT. What the count check of a good frame comes to in each state of the line unit, and what a frame of a known
size then meets (R74, R101, R107, R128). -/

namespace Sys2Proof.Machine

/-! ### Replacing a line unit -/

@[simp] theorem quadSet_quadSet {α : Type} (q : Quad α) (p : Pair) (x y : α) :
    quadSet (quadSet q p x) p y = quadSet q p y := by cases p <;> rfl

@[simp] theorem quadSet_quadGet {α : Type} (q : Quad α) (p : Pair) : quadSet q p (quadGet q p) = q := by
  cases p <;> rfl

@[simp] theorem setLine_setLine (p : Pair) (u v : LineUnit) (s : State) :
    setLine p v (setLine p u s) = setLine p v s := by simp [setLine]

@[simp] theorem setLine_line (p : Pair) (s : State) : setLine p (line s p) s = s := by simp [setLine, line]

/-- Replacing a line unit and counting for a pair may be done in either order. -/
theorem setLine_countPair (p r : Pair) (u : LineUnit) (f : PairCounters → PairCounters) (s : State) :
    setLine p u (countPair r f s) = countPair r f (setLine p u s) := rfl

/-! ### The count check (R74) -/

/-- R74, R107: in SERVICE and WIND-DOWN the lost frames are counted and the monitor period is marked. -/
theorem checkCount_inService (p : Pair) (f : Frame) (s : State) (h : inService (line s p) = true) :
    checkCount p f s =
      countPair p (fun c => { c with lostFrames := satAdd c.lostFrames (framesLost (line s p) f) })
        (setLine p
          (goodMarks (framesLost (line s p) f) { line s p with rxExpected := some (f.count + 1) }) s) := by
  have h2 : inService { line s p with rxExpected := some (f.count + 1) } = true := h
  simp only [checkCount, modLine, line_setLine_same, h2, if_true, setLine_setLine]

/-- R74: in DETECT and TRAIN, and in QUALIFY after the own pass, only the expected count changes. -/
theorem checkCount_plain (p : Pair) (f : Frame) (s : State) (h : inService (line s p) = false)
    (hc : counting (line s p) = false) :
    checkCount p f s = setLine p { line s p with rxExpected := some (f.count + 1) } s := by
  have h2 : inService { line s p with rxExpected := some (f.count + 1) } = false := h
  have h3 : counting { line s p with rxExpected := some (f.count + 1) } = false := hc
  simp only [checkCount, modLine, line_setLine_same, h2, h3, Bool.false_eq_true, if_false]

/-- R101: in QUALIFY before the own pass the lost frames count as bad. -/
theorem checkCount_counting (p : Pair) (f : Frame) (s : State) (hc : counting (line s p) = true) :
    checkCount p f s =
      addBad p (framesLost (line s p) f) (setLine p { line s p with rxExpected := some (f.count + 1) } s) := by
  have h : inService { line s p with rxExpected := some (f.count + 1) } = false := by
    cases hs : (line s p).state <;> simp_all [counting, inService]
  have h3 : counting { line s p with rxExpected := some (f.count + 1) } = true := hc
  simp only [checkCount, modLine, line_setLine_same, h, h3, Bool.false_eq_true, if_true, if_false]

/-- R101: fewer than five bad frames leave the line unit in QUALIFY. -/
theorem addBad_below (p : Pair) (n : Nat) (s : State) (h : (line s p).qualify.bad + n < Config.failTests) :
    addBad p n s =
      setLine p
        { line s p with qualify := { (line s p).qualify with bad := (line s p).qualify.bad + n } } s := by
  simp only [addBad, modLine, line_setLine_same]
  rw [if_neg (by omega)]

/-- R101: the fifth bad frame fails QUALIFY with cause ERRORS. -/
theorem addBad_reached (p : Pair) (n : Nat) (s : State) (h : Config.failTests ≤ (line s p).qualify.bad + n) :
    addBad p n s =
      failQualify p .errors
        (setLine p
          { line s p with qualify := { (line s p).qualify with bad := (line s p).qualify.bad + n } } s) := by
  simp only [addBad, modLine, line_setLine_same]
  rw [if_pos h]

/-! ### A good frame of a known size -/

/-- R128, R182: a frame of its kind's size, at a line unit that hears before and after the count check, is acted on. -/
theorem receive_acts (k : FrameKind) (p : Pair) (f : Frame) (act : State → State) (s : State)
    (h : hears (line s p) = true) (h2 : hears (line (checkCount p f s) p) = true) (hz : frameSizeOk k f = true) :
    receive k p f act s = act (checkCount p f s) := by
  simp [receive, receiveCounted, h, h2, hz]

/-- R74: OFF and QUIET ignore frames. -/
theorem receive_deaf (k : FrameKind) (p : Pair) (f : Frame) (act : State → State) (s : State)
    (h : hears (line s p) = false) : receive k p f act s = s := by
  simp [receive, receiveCounted, h]

/-- In SERVICE and WIND-DOWN a frame of its kind's size is acted on after the count check. -/
theorem receive_inService (k : FrameKind) (p : Pair) (f : Frame) (act : State → State) (s : State)
    (h : inService (line s p) = true) (hz : frameSizeOk k f = true) :
    receive k p f act s = act (checkCount p f s) := by
  have hh : hears (line s p) = true := by
    cases hs : (line s p).state <;> simp_all [hears, inService]
  refine receive_acts k p f act s hh ?_ hz
  rw [checkCount_inService p f s h]
  simpa [goodMarks, hears] using hh

/-- In DETECT and TRAIN, and in QUALIFY after the own pass, a frame of its kind's size is acted on after the count
check. -/
theorem receive_plain (k : FrameKind) (p : Pair) (f : Frame) (act : State → State) (s : State)
    (hh : hears (line s p) = true) (h : inService (line s p) = false) (hc : counting (line s p) = false)
    (hz : frameSizeOk k f = true) :
    receive k p f act s = act (setLine p { line s p with rxExpected := some (f.count + 1) } s) := by
  rw [← checkCount_plain p f s h hc]
  refine receive_acts k p f act s hh ?_ hz
  rw [checkCount_plain p f s h hc]
  simpa [hears] using hh

/-- In QUALIFY before the own pass, with fewer than five bad frames after the count check, a frame of its kind's size
is acted on. -/
theorem receive_counting (k : FrameKind) (p : Pair) (f : Frame) (act : State → State) (s : State)
    (hc : counting (line s p) = true)
    (hb : (line s p).qualify.bad + framesLost (line s p) f < Config.failTests) (hz : frameSizeOk k f = true) :
    receive k p f act s = act (checkCount p f s) := by
  have hs : (line s p).state = .qualify := by cases hs : (line s p).state <;> simp_all [counting]
  refine receive_acts k p f act s (by simp [hears, hs]) ?_ hz
  rw [checkCount_counting p f s hc, addBad_below p _ _ (by simpa using hb)]
  simp [hears, hs]

end Sys2Proof.Machine
end

