-- ==== Sys2Proof/Laws/TestSequence.lean ====
section
/-! SUPPORT. The stream of the test sequence (R183): how many bytes it gives, and its period of 32,767 bits. -/

namespace Sys2Proof.Machine

theorem streamBytes_length (n : Nat) (r : Stages) : (streamBytes n r).length = n := by
  induction n generalizing r with
  | zero => rfl
  | succ k ih => simp [streamBytes, ih]

@[simp] theorem testBody_length (x : Seq) : (testBody x).length = 118 := streamBytes_length 118 _
@[simp] theorem probeFill_length : probeFill.length = 51 := streamBytes_length 51 _

theorem stagesAfter_add (m n : Nat) (r : Stages) : stagesAfter (m + n) r = stagesAfter n (stagesAfter m r) := by
  induction m generalizing r with
  | zero => simp [stagesAfter]
  | succ k ih => rw [Nat.succ_add]; exact ih _

/-- One step of the register as a number. -/
def stepNat (n : Nat) : Nat := 2 * n % 32768 + (n / 16384 + n / 8192) % 2

/-- `k` steps of the register as a number. -/
def stepsNat : Nat → Nat → Nat
  | 0, n => n
  | k + 1, n => stepsNat k (stepNat n)

theorem stagesNext_toNat (r : Stages) : (stagesNext r).toNat = stepNat r.toNat := by
  have h13 : r.getLsbD 13 = decide (r.toNat / 8192 % 2 = 1) := by simp [BitVec.getLsbD, Nat.testBit_eq_decide_div_mod_eq]
  have h14 : r.getLsbD 14 = decide (r.toNat / 16384 % 2 = 1) := by simp [BitVec.getLsbD, Nat.testBit_eq_decide_div_mod_eq]
  have hr : r.toNat < 32768 := r.isLt
  have hor : ∀ n : Nat, (2 * n) ||| 1 = 2 * n + 1 := fun n => (Nat.two_pow_add_eq_or_of_lt (i := 1) (b := 1) (by decide) n).symm
  have hm : r.toNat <<< 1 % 32768 = 2 * (r.toNat % 16384) := by rw [Nat.shiftLeft_eq]; omega
  unfold stagesNext stagesOut stepNat
  rw [h13, h14]
  by_cases h1 : r.toNat / 8192 % 2 = 1 <;> by_cases h2 : r.toNat / 16384 % 2 = 1 <;> simp [h1, h2, hm, hor] <;>
    omega

theorem stagesAfter_toNat (k : Nat) (r : Stages) : (stagesAfter k r).toNat = stepsNat k r.toNat := by
  induction k generalizing r with
  | zero => rfl
  | succ k ih => rw [stagesAfter, ih, stagesNext_toNat]; rfl

theorem stepsNat_add (m n r : Nat) : stepsNat (m + n) r = stepsNat n (stepsNat m r) := by
  induction m generalizing r with
  | zero => simp [stepsNat]
  | succ k ih => rw [Nat.succ_add]; exact ih _

/-- Whether each number of a list is the one before it, 512 steps on. -/
def stepsChain : Nat → List Nat → Bool
  | _, [] => true
  | a, b :: rest => stepsNat 512 a == b && stepsChain b rest

theorem stepsChain_last (rest : List Nat) (a : Nat) (h : stepsChain a rest = true) :
    stepsNat (512 * rest.length) a = rest.getLastD a := by
  induction rest generalizing a with
  | nil => rfl
  | cons b rest ih =>
    simp only [stepsChain, Bool.and_eq_true, beq_iff_eq] at h
    rw [List.length_cons, Nat.mul_succ, Nat.add_comm, stepsNat_add, h.1, ih b h.2]
    rw [List.getLastD_cons]

/-- The register after every 512 steps. -/
def stepsMarks : List Nat :=
  [252, 32754, 3528, 32524, 28722, 29416, 9102, 242, 29130, 3340, 14366, 32490, 4526, 26844, 32515] ++
    [32526, 29242, 29380, 3902, 730, 20838, 9084, 28984, 31942, 13586, 18164, 28484, 31090, 6111, 13, 3380] ++
    [254, 32250, 3556, 21436, 29210, 21060, 3582, 18900, 29670, 10672, 5686, 28333, 6098, 3385, 3530, 32004] ++
    [28702, 24152, 8614, 8286, 24506, 17450, 14898, 23126, 16262, 30875, 31103, 6891, 243, 28878, 3354, 11846]

theorem stepsMarks_chain : stepsChain 32767 stepsMarks = true := by decide +kernel

/-- R183: the stream repeats every 32,767 bits. -/
theorem stagesAfter_period : stagesAfter streamPeriod stagesStart = stagesStart := by
  apply BitVec.eq_of_toNat_eq
  rw [stagesAfter_toNat]
  have h := stepsChain_last stepsMarks 32767 stepsMarks_chain
  have e : streamPeriod = 512 * stepsMarks.length + 511 := rfl
  show stepsNat streamPeriod 32767 = 32767
  rw [e, stepsNat_add, h]
  decide +kernel

end Sys2Proof.Machine
end

