-- ==== Sys2Proof/Tests/Slice0.lean ====
section
/-! SUPPORT. Tests on fixed values: the well-formedness checks, the manual's worked cases, one small step of many commands,
and for every statement that has hypotheses a state and operands that meet them. -/

namespace Sys2Proof.Tests

open Machine

set_option maxRecDepth 20000

/-! ### Small states -/

/-- Station 1, ACTIVE with the built-in defaults, NS 7 and E 100, every line unit at rest in QUIET. -/
def active : State :=
  { State.reset with
    group :=
      { GroupMonitor.reset with
        mode := .active, number := some .n1, record := some .defaults, chainOut := true, beacon := .running 1000 }
    sequencer := ⟨some 7, .idle, none, none⟩
    release := ⟨some 100, false, false, .stopped, .stopped⟩
    lines := .all { LineUnit.reset with holdOff := .running 100000 } }

/-- A state with the line unit of pair A replaced. -/
def withA (u : LineUnit) (s : State) : State := setLine .a u s

/-- A line unit in a state, everything else at rest. -/
def unit (x : LineState) : LineUnit := { LineUnit.reset with state := x, holdOff := .stopped }

/-- A line unit in SERVICE at send rate 64, trained at 128 both ways, its timers due. -/
def serving : LineUnit :=
  { unit .service with
    sendRate := 64, recvRate := 64, trainedSend := 128, trainedRecv := 128, delay := 1000,
    monitor := .running 0, serviceClock := .running 0, svc := { ServiceRecord.clear with reRateCheck := .running 0 } }

/-- A fragment of 16 bytes. -/
def piece (q : Seq) : Fragment := ⟨q, 16, true, false, List.replicate 16 0⟩

/-- A held fragment of 16 bytes. -/
def held (q : Seq) : HoldEntry := ⟨q, .a, 16, true, false, 0, List.replicate 16 0⟩

/-- A frame with no flags, its frame count 5, and a body. -/
def frame (seq : BitVec 16) (body : List Byte) : Frame := ⟨0, BitVec.ofNat 8 (body.length - 1), seq, 5, body⟩

/-- An empty frame. -/
def empty : Frame := ⟨0, 0, 0, 5, []⟩

/-- A QUERY to station 1. -/
def query (code arg : Byte) : BusBlock := ⟨0, bridgeAddress, 0, [1, code, arg]⟩

/-- The state a command leads to, the same state if it leads to none. -/
def after (c : Instr) (s : State) : State :=
  match exec c s with
  | .next t => t
  | _ => s

/-! ### Commands that cannot come about are refused by `wellFormed` -/

theorem test_wf_contend : Instr.wellFormed (.busIdleContend (List.replicate 7 0)) = true ∧
    Instr.wellFormed (.busIdleContend (List.replicate 8 0)) = false := by decide
theorem test_wf_hold : Instr.wellFormed (.holdOn ⟨0, 7, 0, [1]⟩) = true ∧ Instr.wellFormed (.holdOn ⟨0, 7, 0, [0]⟩) = false ∧
    Instr.wellFormed (.holdOff ⟨0, 7, 0, [0]⟩) = true ∧ Instr.wellFormed (.holdOff ⟨0, 7, 0, [1]⟩) = false := by decide
theorem test_wf_reply : Instr.wellFormed (.replyObserved .own) = true ∧
    Instr.wellFormed (.replyObserved (.heard ⟨0, 7, 0, []⟩)) = false := by decide
theorem test_wf_query_items :
    Instr.wellFormed (.identity (query 1 0)) = true ∧ Instr.wellFormed (.identity (query 2 0)) = false ∧
      Instr.wellFormed (.station (query 3 0)) = false ∧ Instr.wellFormed (.pair (query 2 0)) = false ∧
      Instr.wellFormed (.counters (query 5 0)) = false ∧ Instr.wellFormed (.snapshot (query 4 0)) = false ∧
      Instr.wellFormed (.events (query 7 0)) = false ∧ Instr.wellFormed (.ringFreeze (query 8 0)) = false ∧
      Instr.wellFormed (.ringThaw (query 7 0)) = false := by decide
theorem test_wf_query_sender : Instr.wellFormed (.identity { query 1 0 with sender := 3 }) = false ∧
    Instr.wellFormed (.unknownItem (query 9 0)) = true ∧ Instr.wellFormed (.unknownItem (query 0 0)) = true ∧
      Instr.wellFormed (.unknownItem (query 8 0)) = false ∧
      Instr.wellFormed (.unknownItem { query 9 0 with sender := 3 }) = false := by decide
theorem test_wf_closing_probe : Instr.wellFormed (.probe .a { empty with flags := 32 }) = false ∧
    Instr.wellFormed (.closingProbe .a empty) = false ∧
      Instr.wellFormed (.closingProbe .a { empty with flags := 32 }) = true := by decide
theorem test_wf_closing_verdict : Instr.wellFormed (.verdict .a { empty with flags := 32 }) = false ∧
    Instr.wellFormed (.closingVerdict .a empty) = false ∧ Instr.wellFormed (.verdict .a empty) = true := by decide
theorem test_wf_unknown_kind : Instr.wellFormed (.unknownFrameKind .a 0x03 empty) = true ∧
    Instr.wellFormed (.unknownFrameKind .a 0x01 empty) = false := by decide

/-! ### No row of the table has bits -/

theorem test_no_word : decodeTableWord 16 0 = none ∧ (State.reset.withFetchWord 16 0).pending = [] := by decide

/-! ### The worked cases of the manual -/

/-- A line unit whose queue holds a given backlog, at a send rate and a delay. -/
def bidder (lengths : List Nat) (rate delay : Nat) : LineUnit :=
  { serving with queue := lengths.map (fun n => ⟨0, n, false, false, []⟩), sendRate := rate, delay := delay }

/-- spec/04, "the three bids of one offer". -/
theorem test_three_bids :
    bidOf 200 (bidder [256, 256] 100 2400) = 4255 ∧ bidOf 200 (bidder [256, 256, 256, 256] 256 5200) = 6445 ∧
      bidOf 200 (bidder [] 40 3100) = 4413 := by decide

/-- spec/04, "one station's four pairs, one of them re-rating". -/
def fourPairs : State :=
  { active with
    group.record := some { StartRecord.defaults with ceiling := 20000 }
    lines :=
      ⟨bidder [256, 256, 256] 200 6000, { bidder [] 220 2500 with los := true },
        { bidder [256] 96 3000 with svc := { ServiceRecord.clear with pendingTarget := some 72 } },
        { bidder [256, 256] 180 4800 with state := .windDown }⟩ }

theorem test_four_pairs :
    biddingFor 64 fourPairs =
      ⟨true, ⟨true, false, true, false⟩, ⟨some 7090, some 2585, some 4181, none⟩, some ⟨.c, 4181⟩⟩ := by decide

/-- spec/04, "equal bids": pair A of two equal ones is the candidate. -/
theorem test_equal_bids :
    (biddingFor 200
        { active with
          lines :=
            ⟨bidder [250, 250, 250, 250, 250, 250, 220] 250 2000, unit .quiet, bidder [180] 50 2000, unit .quiet⟩ }).candidate =
      some ⟨.a, 4000⟩ := by decide

/-- spec/04, "limits at the slowest and fastest rates", and R60. -/
theorem test_bid_limits :
    bidOf 230 (bidder [230] 200 400) = 1000 ∧ bidOf 231 (bidder [230] 200 400) = 1002 ∧
      bidOf 16 (bidder [] 256 0) = 26 ∧ bidOf 256 (bidder (List.replicate 32 256) 1 16383) = 2210883 := by decide

/-- spec/06, "a rate search from 8 to 256". -/
theorem test_rate_search :
    searchResult (fun r => decide (r ≤ 150)) 8 256 13 (searchStart 8) = some 150 ∧
      searchResult (fun r => decide (r ≤ 150)) 8 256 12 (searchStart 8) = none := by decide

/-- spec/06, "an echo": the farm end's ECHO-ASK left at 0, the ECHO came at 6,630 µs with turnaround 1,750. -/
def echoWait : State :=
  withA
    { unit .train with
      trainedSend := 120
      trainedRecv := 150
      train := { TrainRecord.start with phase := .echo, t1 := some 0, echoDeadline := .running 93370 } }
    { active with timeBase := 6630 }

theorem test_echo : (line (after (.echo .a (frame 0 (byte2 1750))) echoWait) .a).delay = 2430 := by decide

/-- spec/07, "one direction down and up again": the fourth check asks for 112. -/
theorem test_down_rate :
    let u : LineUnit := { serving with recvRate := 150, trainedRecv := 150 }
    let due (u : LineUnit) : LineUnit := { u with svc := { u.svc with reRateCheck := .running 0 } }
    let check (m : BitVec 6) (s : State) := after (.reRateCheck .a m) (modLine .a due s)
    let s := check 5 (check 4 (check 5 (check 14 (withA u active))))
    (line s .a).ctl.rateAsk = some 112 ∧ (line s .a).svc.request = true ∧ (line s .a).svc.downStreak = 0 := by decide

/-- spec/08, "arrivals across the wrap". -/
def wrapQueue : State :=
  { active with
    release.e := some 16378
    holdQueue := ⟨[{ held 16380 with pair := .b }, { held 16383 with pair := .c }], 0⟩ }

theorem test_arrivals_across_the_wrap :
    let put (q : Seq) (s : State) := classifyArrival 16378 (held q) s
    let s := put 2 (put 16379 wrapQueue)
    let t := put 16378 (put 2 (put 1500 (put 16370 s)))
    s.holdQueue.entries.map (·.seq) = [16379, 16380, 16383, 2] ∧
      (put 1500 (put 16370 s)).holdQueue.runaway = 2 ∧ t.holdQueue.runaway = 0 ∧
      t.holdQueue.entries.map (·.seq) = [16378, 16379, 16380, 16383, 2] ∧
      t.status.live.station = { StationCounters.zero with accepted := 3, duplicates := 1, stale := 1, farAhead := 1 } := by
  decide

/-- The end of that sequence: a REBASE naming 600 purges the four entries; one naming 16300 would keep them. -/
theorem test_rebase_purges :
    let s : State :=
      { active with release.e := some 16379, holdQueue := ⟨[held 16379, held 16380, held 16383, held 2], 2⟩ }
    let rebase (q : BitVec 20) := after (.rebase (.heard ⟨q, 3, 0, []⟩)) s
    (rebase 600).release.e = some 601 ∧ (rebase 600).holdQueue = ⟨[], 0⟩ ∧
      (rebase 600).status.live.station.stale = 4 ∧ (rebase 16300).holdQueue.entries.length = 4 := by decide

/-- spec/08, "a full queue". -/
def fullQueue : State :=
  { active with
    holdQueue := ⟨(List.range 96).map (fun i => ⟨BitVec.ofNat 14 (101 + i), .a, 16, true, false, 0, []⟩), 2⟩ }

theorem test_full_queue :
    let put (q : Seq) (s : State) := classifyArrival 100 ⟨q, .b, 16, true, false, 0, []⟩ s
    let s := put 300 (put 99 (put 150 fullQueue))
    let t := put 100 s
    s.holdQueue.runaway = 3 ∧ s.status.live.station.overflows = 1 ∧ t.holdQueue.entries.length = 96 ∧
      t.holdQueue.entries.head?.map (·.seq) = some 100 ∧ t.holdQueue.entries.getLast?.map (·.seq) = some 195 ∧
      t.status.live.station.overflows = 2 ∧ (put 196 t).holdQueue = t.holdQueue ∧
      (put 196 t).status.live.station.overflows = 3 := by decide

/-- spec/01, "one idle bus, three contenders": the MARK (3) beats RELEASE (5) and QUERY (7). -/
theorem test_mark_wins :
    arbField 3 ⟨0, 3, 0, []⟩ < arbField 5 ⟨40, 1, 0, []⟩ ∧ arbField 5 ⟨40, 1, 0, []⟩ < arbField 7 ⟨0, 7, 0, []⟩ ∧
      arbField 7 ⟨0, 3, 0, []⟩ < arbField 7 ⟨0, 7, 0, []⟩ ∧ arbField 4 ⟨4255, 1, 0, []⟩ < arbField 4 ⟨4413, 2, 2, []⟩ := by
  decide

/-- R179: its CRC of the digits 1 to 9 is the check value published for this polynomial, start and order. -/
theorem test_crc : crcOf (bitsOfBytes [0x31, 0x32, 0x33, 0x34, 0x35, 0x36, 0x37, 0x38, 0x39]) = 0x29B1 := by decide

/-- R183: the first bytes of TEST body 0, stepped by hand from fifteen ones. -/
theorem test_sequence : (testBody 0).take 8 = [0x00, 0x02, 0x00, 0x0C, 0x00, 0x28, 0x00, 0xF0] := by decide

/-! ### Witnesses: the machine and its laws -/

/-- An ACTIVE station with pair A in SERVICE that holds E + 1 and whose SKIP and MARK are pending. -/
def waitingStation : State :=
  withA { serving with svc := { serving.svc with pendingTarget := some 64 }, queue := [piece 6], lastReceived := some 101 }
    { active with
      holdQueue := ⟨[held 101], 15⟩
      release := ⟨some 100, false, false, .stopped, .running 0⟩
      port.skip := some ⟨⟨seqValue 100, 1, 0, []⟩, 3⟩ }

theorem witness_StepRunsTheCommandAtTheFront :
    ({ State.reset with pending := [.chainInAsserted, .pinReset] } : State).pending = .chainInAsserted :: [.pinReset] := rfl
theorem witness_IdleStepPassesOneMicrosecond : waitingStation.pending = [] := rfl
/-- R68: a pair with no frame on it starts an IDLE before the microsecond passes, and a held hold-off does not run. -/
theorem test_tick_chooses :
    let t := tick (withA { serving with monitor := .running 3 } active)
    (line t .a).tx = some ⟨.idle, 0, 64⟩ ∧ t.status.live.pairs.a.idleFrames = 1 ∧ (line t .a).monitor = .running 2 ∧
      (line t .b).holdOff = .running 99999 ∧ (line (tick State.reset) .b).holdOff = .held := by decide
theorem witness_EveryCommandAnswersANextStateAtOnce : resets .chainInAsserted = false := rfl
theorem witness_EveryStepKeeps_step : step waitingStation = .next (tick waitingStation) := rfl
theorem witness_EveryStepKeepsTheHoldQueueLaw : HoldQueueLaw waitingStation :=
  ⟨by decide, by decide, show OrderedFrom 100 [held 101] from by decide⟩
theorem witness_EveryStepKeepsTheSendPoolLaw : SendPoolLaw waitingStation := by
  repeat' first | decide | apply And.intro
theorem witness_EveryStepKeepsSkipAndReleaseAtE : ReleaseLaw waitingStation := by
  decide
theorem witness_EveryStepKeepsTheRateLaw : RateLaw waitingStation := by
  repeat' first | decide | apply And.intro
theorem witness_EveryStepKeepsTheCountsInRange : RangesLaw waitingStation := by
  repeat' first | decide | apply And.intro
theorem witness_EveryStepKeepsModesAndQueues : ActiveLaw waitingStation ∧ ServiceQueueLaw waitingStation := by
  decide
theorem witness_OnlyTheNamedCommandsMoveENsRecordAndSnapshot :
    exec .sendAbort active = .next active ∧ mayMoveE .sendAbort = false ∧ mayMoveNs .sendAbort = false ∧
      mayChangeRecord .sendAbort = false ∧ mayChangeSnapshot .sendAbort = false := ⟨rfl, rfl, rfl, rfl, rfl⟩
theorem witness_CommandsOfAPairLeaveOtherPairsAlone :
    pairOf (.holdOffExpiry .a) = some .a ∧ (Pair.d ≠ .a) ∧
      exec (.holdOffExpiry .a) active = .next (after (.holdOffExpiry .a) active) := ⟨rfl, by decide, rfl⟩

/-! ### Witnesses: the wire and the shared rules -/

theorem witness_TransmittedFieldsReadBack :
    (16 ≤ (piece 0).length ∧ (piece 0).length ≤ 256 ∧ (piece 0).payload.length = (piece 0).length) ∧
      (let x : Fragment := ⟨0, 256, true, true, List.replicate 256 0⟩
      16 ≤ x.length ∧ x.length ≤ 256 ∧ x.payload.length = x.length) ∧
      (1 ≤ 1 ∧ 1 ≤ 256 ∧ 256 ≤ 256 ∧ 2 ^ 24 - 1 < 2 ^ 24) ∧ (16 ≤ 16 ∧ 63 ≤ 63 ∧ 64 ≤ 64) ∧ 50 < 51 ∧ 117 < 118 ∧ 7 < 8 ∧
      WindDownReason.margin ≠ .farRequest := by decide
/-- R71: a frame of 12 bytes at rate code 256 lasts 11.71875 µs, and a FRAG of 74 bytes 72.265625 µs. -/
theorem test_frame_duration : frameDuration 12 256 = 375 / 32 ∧ frameDuration 74 256 = 4625 / 64 ∧
    txDuration ⟨.idle, 0, 100⟩ = 30 := by
  have h : (txBytes ⟨.idle, 0, 100⟩).length = 12 := by decide
  simp only [txDuration, frameDuration, h]
  norm_num
theorem witness_BidIsExactAndInRange :
    let u := bidder (List.replicate 32 256) 1 16383
    (16 ≤ 256 ∧ 256 ≤ 256 ∧ u.queue.length ≤ 32 ∧ (∀ f ∈ u.queue, 16 ≤ f.length ∧ f.length ≤ 256) ∧ 1 ≤ effectiveRate u ∧
      effectiveRate u ≤ 256 ∧ u.delay ≤ 16383) ∧
      (u.queue.length = 32 ∧ (∀ f ∈ u.queue, f.length = 256) ∧ effectiveRate u = 1 ∧ u.delay = 16383) ∧
      (bidder [] 256 0).queue = [] ∧ effectiveRate (bidder [] 256 0) = 256 ∧ (bidder [] 256 0).delay = 0 := by decide
theorem witness_EffectiveRate :
    let u (x : Nat) : LineUnit := { serving with svc := { serving.svc with pendingTarget := some x } }
    serving.svc.pendingTarget = none ∧ (u 63).svc.pendingTarget = some 63 ∧ 63 < (u 63).sendRate ∧
      (u 64).svc.pendingTarget = some 64 ∧ (u 64).sendRate ≤ 64 := by decide
theorem witness_CandidateIsTheLowestEligibleBid :
    (biddingFor 64 fourPairs).candidate = some ⟨.c, 4181⟩ ∧ (biddingFor 64 active).candidate = none := by decide
theorem witness_SearchFindsTheHighestCleanRate :
    (1 ≤ 1 ∧ 1 ≤ 1 ∧ 1 ≤ 256 ∧ 256 ≤ 256) ∧ (1 ≤ 8 ∧ 8 ≤ 150 ∧ 150 ≤ 256) ∧
      searchResult (fun r => decide (r ≤ 1)) 1 256 16 (searchStart 1) = some 1 ∧
      searchResult (fun r => decide (r ≤ 255)) 1 256 16 (searchStart 1) = some 255 := by decide
theorem witness_BurstResultMovesTheSearch :
    (256 = 256) ∧ (128 ≠ 256) ∧ (8 = 8) ∧ (256 ≠ 8 ∧ 1 < 256 - 128) ∧ (1 < 152 - 150) ∧ (1 < 150 - 148) ∧
      (151 = 150 + 1) ∧ (151 = 150 + 1) := by decide

/-- Pairs A in SERVICE and B in WIND-DOWN with last-received numbers, and a held entry. -/
def horizons (a b : Option Seq) (entries : List HoldEntry) : State :=
  { active with
    lines := ⟨{ serving with lastReceived := a }, { unit .windDown with lastReceived := b }, unit .quiet, unit .off⟩
    holdQueue := ⟨entries, 0⟩ }

theorem witness_OwnHorizon_unknown :
    (horizons none (some 5) []).release.e = some 100 ∧ inService (line (horizons none (some 5) []) .a) = true ∧
      (line (horizons none (some 5) []) .a).lastReceived = none := by decide
theorem witness_OwnHorizon_open :
    active.release.e = some 100 ∧ (∀ p, inService (line active p) = false) ∧ active.holdQueue.entries = [] :=
  ⟨rfl, by intro p; cases p <;> rfl, rfl⟩
theorem witness_OwnHorizon_bound :
    let s := horizons (some 120) (some 110) [held 105]
    s.release.e = some 100 ∧ (∀ p, inService (line s p) = true → (line s p).lastReceived ≠ none) ∧
      (∃ p, inService (line s p) = true) ∧ ownHorizon s = .bound 105 :=
  ⟨rfl, by intro p; cases p <;> decide, ⟨.a, rfl⟩, by decide⟩
/-- R155: a stale component lies below every other. -/
theorem test_horizon_stale : ownHorizon (horizons (some 120) (some 98) [held 105]) = .bound 99 := by decide

theorem witness_EvidenceSkip_placed :
    let s := horizons (some 120) (some 110) [held 105]
    s.group.mode = .active ∧ s.group.number = some .n1 ∧ s.release.e = some 100 ∧ s.holdQueue.entries ≠ [] ∧
      s.release.hold = false ∧ ownHorizon s = .bound 105 ∧ 1 ≤ (105 - 100 : Seq).toNat ∧ (105 - 100 : Seq).toNat ≤ 8191 ∧
      (∀ j, j ≠ .n1 → (stationGet s.group.table j).present = true →
        (stationGet s.group.table j).horizon = .openEnded) ∧
      evidenceSkip s = placeBlock .skip ⟨100, 1, 0, []⟩ s :=
  ⟨rfl, rfl, rfl, by decide, rfl, by decide, by decide, by decide, by intro j; cases j <;> decide, by decide⟩
/-- R156: 8191 ahead of E is ahead, and 8192 and E itself are not. -/
theorem test_horizon_range :
    horizonAhead 100 (.bound 8291) = true ∧ horizonAhead 100 (.bound 8292) = false ∧ horizonAhead 100 (.bound 101) = true ∧
      horizonAhead 100 (.bound 100) = false ∧ (8291 - 100 : Seq).toNat = 8191 := by decide
theorem witness_EvidenceSkip_not :
    active.holdQueue.entries = [] ∧ (held 100).seq = 100 ∧ ownHorizon (horizons none none [held 105]) = .unknown ∧
      ownHorizon (horizons (some 120) (some 98) [held 105]) = .bound 99 ∧ 8192 ≤ (99 - 100 : Seq).toNat := by decide

theorem witness_ReleaseIsBuiltFromTheHeadAtE :
    let s : State := { active with holdQueue := ⟨[held 100], 0⟩ }
    s.group.mode = .active ∧ s.group.number = some .n1 ∧ s.release.e = some 100 ∧ s.holdQueue.entries = held 100 :: [] ∧
      s.release.hold = false ∧ s.port.release = none ∧ ownOnLine s.port .release = false ∧ (held 101).seq ≠ 100 := by decide
theorem witness_MoveOfEPurgesAndResets :
    waitingStation.group.mode = .active ∧ waitingStation.group.number = some .n1 ∧ waitingStation.release.e = some 100 ∧
      waitingStation.port.onLine = none := by decide
/-- R145 step 5: a move of E places SKIP(E) by evidence where an entry waits and the horizon is ahead, and not with HOLD on. -/
theorem test_move_of_e_skips :
    let s : State := horizons (some 120) (some 110) [held 105]
    (moveE s).port.skip = some ⟨⟨100, 1, 0, []⟩, 0⟩ ∧ (moveE { s with release.hold := true }).port.skip = none := by decide
theorem witness_SkipTimerIsLoadedAndExpires :
    waitingStation.release.skipTimer = .running 0 ∧ SkipTimer.running 1 ≠ .running 0 ∧ waitingStation.group.number = some .n1 ∧
      waitingStation.release.e = some 100 ∧ inService (line waitingStation .a) = true := by decide

/-- The distances at which an arrival changes class: 0, 1023, 1024, 8191, 8192 and 16,383. -/
theorem witness_ArrivalIsClassifiedAgainstE :
    seqDist 100 100 = 0 ∧ seqDist 100 1123 = 1023 ∧ seqDist 100 1124 = 1024 ∧ seqDist 100 8291 = 8191 ∧
      seqDist 100 8292 = 8192 ∧ seqDist 100 99 = 16383 ∧ waitingStation.holdQueue.runaway = 15 ∧
      active.holdQueue.runaway < 15 ∧ (∃ h ∈ waitingStation.holdQueue.entries, h.seq = 101) ∧
      waitingStation.holdQueue.entries.length < 96 := by decide
theorem witness_Arrival_at_a_full_queue :
    fullQueue.holdQueue.entries.length = 96 ∧ (∀ h ∈ fullQueue.holdQueue.entries, h.seq ≠ 100) ∧
      fullQueue.holdQueue.entries.getLast?.map (·.seq) = some 196 ∧ seqDist 100 100 < seqDist 100 196 ∧
      seqDist 100 196 < seqDist 100 300 := by decide
theorem witness_Arrival_law : HoldQueueLaw fullQueue :=
  ⟨by decide, by decide, by unfold OrderedFromE fullQueue active; decide⟩
theorem witness_EventIsStoredOrMissed :
    let full : State := { active with status.ring := List.replicate 16 ⟨.losOn, 0, 0, 0⟩ }
    (active.status.frozen = false ∧ active.status.ring.length < 16) ∧
      (full.status.frozen = false ∧ full.status.ring.length = 16) ∧
      ({ active with status.frozen := true } : State).status.frozen = true ∧ satInc 65535 = 65535 := by decide

/-! ### Witnesses: the group monitor -/

/-- A station in READING. -/
def reading : State := { State.reset with group := { GroupMonitor.reset with mode := .reading, readTimer := .running 1 } }

/-- A station in LISTENING, its period running, without a number. -/
def listening : State :=
  { State.reset with
    group := { GroupMonitor.reset with mode := .listening, record := some .defaults, listening := .running 0 } }

/-- Record bytes of FARM with pair A disabled and every other field 0, and of a sum of 64. -/
def farmRecord : BitVec 128 := 0x4000 <<< 112

theorem witness_RecordReadBeginsListening :
    State.reset.group.mode = .waiting ∧ active.group.mode ≠ .waiting ∧ reading.group.mode = .reading ∧
      (64 : BitVec 16).toNat = recordSum farmRecord ∧ (63 : BitVec 16).toNat ≠ recordSum farmRecord ∧
      active.group.mode ≠ .reading ∧ quadGet (clampRecord farmRecord).enabled .a = false ∧
      quadGet StartRecord.defaults.enabled .a = true := by decide
/-- R20, R21: a record of zeros is read as every field's least value, with the detect timeout raised to 2^6. -/
theorem test_zero_record :
    let c := clampRecord farmRecord
    c.role = .farm ∧ c.ceiling = 1000 ∧ c.skipTime = 2000 ∧ c.holdLimit = 1 ∧ c.maxRate = 1 ∧ c.minRate = 1 ∧
      c.errorThreshold = 1 ∧ c.losHold = 10 ∧ c.holdOffBase = 50 ∧ c.detectExp = 6 := by decide
theorem witness_BusReset :
    (State.reset.group.mode = .waiting ∧ reading.group.mode = .reading ∧
      (active.group.mode ≠ .waiting ∧ active.group.mode ≠ .reading)) ∧
      quadGet (config active).enabled .a = true ∧
      quadGet (config { active with group.record := some (clampRecord farmRecord) }).enabled .a = false := by decide
theorem witness_BusRelease :
    let s : State := { listening with port.dominant := true, group.listening := .held }
    (s.port.dominant = true ∧ s.group.listening = .held) ∧
      ({ active with port.dominant := true } : State).group.listening ≠ .held ∧ active.port.dominant = false ∧
      (after .busReset active).port.dominant = true := by decide
theorem witness_ListeningEnd_not_due :
    let s : State := { listening with group.listening := .running 1 }
    s.group.mode = .listening ∧ s.group.listening = .running 1 ∧ after .listeningPeriodEnd s = s := by decide
theorem witness_ListeningEnd_numbered :
    let s : State := { listening with group.number := some .n5 }
    s.group.mode = .listening ∧ s.group.listening = .running 0 ∧ s.holdQueue.entries = [] ∧ s.group.number = some .n5 ∧
      (line s .a).holdOff = .held := by decide
theorem witness_ListeningEnd_lowest_free :
    let s : State := { listening with group.join := ⟨⟨true, true, true, true, true, false⟩, some ⟨7, 100⟩⟩ }
    s.group.number = none ∧ stationGet s.group.join.heard .n5 = false ∧
      (∀ j, stationIndex j < stationIndex .n5 → stationGet s.group.join.heard j = true) ∧
      s.group.join.values = some ⟨7, 100⟩ ∧ listening.group.join.values = none ∧
      stationGet listening.group.join.heard .n0 = false :=
  ⟨rfl, rfl, by intro j; cases j <;> decide, rfl, rfl, rfl⟩
theorem witness_ListeningEnd_spare :
    let s : State := { listening with group.join := ⟨.all true, none⟩ }
    s.group.number = none ∧ ∀ k, stationGet s.group.join.heard k = true :=
  ⟨rfl, by intro k; cases k <;> rfl⟩
theorem witness_BeaconExpiryPlacesAMarkAndUpdatesPresence :
    let s : State :=
      { active with
        group.beacon := .running 0
        group.table :=
          ⟨⟨true, 5, 0, true, .openEnded, 64⟩, .absent, ⟨true, 5, 2, false, .openEnded, 64⟩,
            ⟨true, 0, 3, false, .openEnded, 64⟩, ⟨false, 0, 15, false, .unknown, 0⟩, .absent⟩ }
    (s.group.mode = .active ∧ s.group.number = some .n1 ∧ s.group.beacon = .running 0 ∧
      s.sequencer.ns = some 7 ∧ s.release.e = some 100) ∧
      (stationGet s.group.table .n0).heardNow = true ∧ (stationGet s.group.table .n2).missed < 3 ∧
      ((stationGet s.group.table .n3).present = true ∧ 3 ≤ (stationGet s.group.table .n3).missed) ∧
      (stationGet s.group.table .n4).present = false ∧
      (after .beaconExpiry s).status.ring.map (fun x => (x.kind, x.subject)) = [(.peerAbsent, 3)] := by decide
theorem witness_BeaconExpiry_not_due :
    active.group.beacon = .running 1000 ∧ after .beaconExpiry active = active := by decide
/-- A station that waits for 100 behind a head at 105, and hears MARKs of a peer, station 2. -/
def waitsFor2 (peer : PeerEntry) : State :=
  { active with holdQueue.entries := [held 105], group.table := stationSet active.group.table .n2 peer }
/-- R157: the fourth missed interval makes the one peer of UNKNOWN horizon ABSENT, and the evidence skip fires; with no peer that
becomes ABSENT it is not tested. -/
theorem witness_BeaconExpiry_skip :
    let s (missed : Nat) : State :=
      { waitsFor2 ⟨true, 0, missed, false, .unknown, 64⟩ with group.beacon := .running 0 }
    let t (missed : Nat) := after .beaconExpiry (s missed)
    (StationNo.n2 ≠ .n1 ∧ (stationGet (s 3).group.table .n2).present = true ∧ 3 ≤ (stationGet (s 3).group.table .n2).missed) ∧
      ((s 2).group.mode = .active ∧ (stationGet (s 2).group.table .n2).missed < 3) ∧
      (t 3).port.skip.map (·.block.value) = some 100 ∧ (t 2).port.skip = none := by decide

/-- A MARK of a farm station: NS 7, E 100, horizon OPEN, no pair in service. -/
def farmMark (sender : Address) : BusBlock := ⟨0, sender, 0, [1, 0, 7, 0, 100, 1, 0xFF, 0xFF, 0, 0, 0]⟩

theorem witness_MarkOfAPeerIsTakenIn :
    stationOfAddress (farmMark 2).sender = some .n2 ∧ (farmMark 2).body.length = 11 ∧ active.group.number ≠ some .n2 ∧
      (farmMark 2).body.getD 0 0 = roleByte (config active).role ∧ active.group.mode = .active ∧
      listening.group.mode = .listening ∧
      (farmMark 2).body.getD 0 0 ≠
        roleByte (config { active with group.record := some { StartRecord.defaults with role := .cabinet } }).role := by
  decide
theorem witness_Mark_not_taken :
    (farmMark 7).sender.toNat = 7 ∧ (farmMark 6).sender.toNat = 6 ∧ { farmMark 2 with body := [1] }.body.length ≠ 11 ∧
      reading.group.mode ≠ .active ∧ reading.group.mode ≠ .listening := by decide
theorem witness_Mark_peer_present :
    let s (present : Bool) (heard : Nat) : State := { active with group.table := .all ⟨present, heard, 0, false, .openEnded, 0⟩ }
    ((stationGet (s false 2).group.table .n2).present = false ∧ 2 ≤ (stationGet (s false 2).group.table .n2).heard) ∧
      (stationGet (s true 2).group.table .n2).present = true ∧ (stationGet (s false 1).group.table .n2).heard < 2 := by decide
/-- R157: the evidence skip fires at the MARK that brings the peer's horizon past E, and not at one that leaves it. -/
theorem witness_Mark_skip :
    let hear (h : Horizon) := after (.mark (.heard (farmMark 2))) (waitsFor2 ⟨true, 5, 0, true, h, 0⟩)
    horizonOfBody (farmMark 2).body = .openEnded ∧ Horizon.unknown ≠ .openEnded ∧
      (hear .unknown).port.skip.map (·.block.value) = some 100 ∧ (hear .openEnded).port.skip = none := by decide
/-- R28: the third MARK in a row makes the entry PRESENT, the second does not. -/
theorem test_third_mark :
    let hear (s : State) := after (.mark (.heard (farmMark 2))) s
    (stationGet (hear (hear active)).group.table .n2).present = false ∧
      (stationGet (hear (hear (hear active))).group.table .n2).present = true ∧
      (hear (hear (hear active))).status.ring.map (·.kind) = [.peerPresent] := by decide
theorem witness_Mark_own :
    let x : OnLine := ⟨.mark, farmMark 1, 0, true⟩
    ({ active with port.onLine := some x } : State).port.onLine = some x ∧ x.kind = .mark := by decide
theorem witness_OwnNumberHeardMakesConflict :
    let s := withA serving active
    s.group.mode = .active ∧ s.group.number = some .n1 ∧ stationOfAddress (farmMark 1).sender = some .n1 ∧
      (farmMark 1).body.length = 11 ∧ (farmMark 1).body.getD 0 0 = roleByte (config s).role ∧
      (line s .a).state = .service ∧ (line s .a).svc.windDown = none ∧ (line s .b).state = .quiet ∧
      ownLeaveOnPair (line s .a) = false := by decide

/-- A wind-down whose own LEAVE has started and not ended. -/
def leaving : WindDownRecord := ⟨.errors, .running 0, true, false, false, none⟩

theorem witness_Conflict_while_leaving :
    ownLeaveOnPair { unit .windDown with svc.windDown := some leaving } = true ∧ (unit .detect).state = .detect ∧
      (unit .train).state = .train ∧ (unit .qualify).state = .qualify := by decide

theorem witness_Conflict_exits :
    let u (w : WindDownRecord) : LineUnit := { unit .windDown with svc.windDown := some w, serviceClock := .running 1 }
    (inService (u { leaving with leaveStarted := false }) = true ∧
        ownLeaveOnPair (u { leaving with leaveStarted := false }) = false) ∧
      ownLeaveOnPair (u { leaving with leaveEnded := true }) = false ∧ inService serving = true ∧
      (let v : LineUnit :=
        { u { leaving with deferred := some .conflict } with tx := some ⟨.leave, 3, 64⟩ }
      v.state = .windDown ∧ v.tx = some ⟨.leave, 3, 64⟩ ∧ v.svc.windDown = some { leaving with deferred := some .conflict } ∧
        leaving.leaveStarted = true) := by decide
/-- R33, R77, R85, R125: a pair in service goes OFF at CONFLICT with one LEAVE, k raised, its fragment discarded and counted, and
an event with the reason CONFLICT. -/
theorem test_conflict_exit :
    let s := withA { serving with queue := [piece 6], serviceClock := .running 1 } active
    let t := after (.mark (.heard (farmMark 1))) s
    (line t .a).state = .off ∧ (line t .a).k = 1 ∧ (line t .a).queue = [] ∧ (line t .a).tx = some ⟨.leave, 0, 64⟩ ∧
      t.status.live.pairs.a.discarded = 1 ∧ t.status.ring.map (fun x => (x.kind, x.subject, x.value)) = [(.leftService, 0, 4)] := by
  decide

/-! ### Witnesses: the bus port -/

/-- A pending MARK. -/
def pendingMark : PendingBlock := ⟨farmMark 1, 3⟩

/-- A station whose MARK and REPLY are pending. -/
def contending : State := { active with port.mark := some pendingMark, port.reply := some ⟨⟨0, 1, 0, []⟩, 0⟩ }

theorem witness_LowestField_pending :
    contending.port.onLine = none ∧ contending.port.receiveBuffer = none ∧ contending.port.dominant = false ∧
      contending.group.mode = .active ∧ slotOf contending.port .mark = some pendingMark ∧
      contending.port.slotOpen = false := by decide
theorem witness_LowestField_lower_slots :
    ∀ j, j ≠ SlotKind.claim → (slotCode j).toNat < (slotCode .mark).toNat → slotOf contending.port j = none := by
  intro j; cases j <;> decide
theorem witness_LowestField_others :
    (arbField (slotCode .mark) pendingMark.block).toNat ≤ (arbField 3 (farmMark 1)).toNat ∧
      (arbField 3 (farmMark 0)).toNat < (arbField (slotCode .mark) pendingMark.block).toNat := by decide
theorem witness_LowestField_claim :
    let s : State := { active with port.claim := some ⟨⟨4255, 1, 0, []⟩, 0⟩, port.slotOpen := true }
    slotOf s.port .claim = some ⟨⟨4255, 1, 0, []⟩, 0⟩ ∧ s.port.slotOpen = true ∧ s.port.dominant = false := by decide
theorem witness_LowestField_nothing :
    listening.group.mode ≠ .active ∧
      (let s : State := { active with port.slotOpen := true }
      s.port.slotOpen = true ∧ s.port.claim = none) ∧
      (active.port.slotOpen = false ∧ ∀ k, k ≠ .claim → slotOf active.port k = none) :=
  ⟨by decide, by decide, rfl, by intro k; cases k <;> decide⟩

/-- The station's own SKIP is on the line at its fourth attempt. -/
def skipOnLine (fails : Nat) (retry : Bool) : OnLine := ⟨.skip, ⟨100, 1, 0, []⟩, fails, retry⟩

theorem witness_AbortedBlock_cases :
    let s (x : OnLine) : State := { waitingStation with port.onLine := some x, port.skip := none }
    ((s (skipOnLine 2 true)).port.onLine = some (skipOnLine 2 true) ∧ (skipOnLine 2 true).kind ≠ .claim ∧
      slotOf (s (skipOnLine 2 true)).port .skip = none ∧ (skipOnLine 2 true).retry = true ∧
      (skipOnLine 2 true).fails < 3) ∧
      (3 ≤ (skipOnLine 3 true).fails ∧ waiting (s (skipOnLine 3 true)) = true ∧
        (s (skipOnLine 3 true)).release.hold = false) ∧ (skipOnLine 0 false).retry = false ∧
      slotOf waitingStation.port .skip ≠ none := by decide
theorem witness_AbortedBlock_kinds :
    (⟨.mark, farmMark 1, 3, true⟩ : OnLine).kind = .mark ∧ (⟨.release, ⟨100, 1, 0, []⟩, 3, true⟩ : OnLine).kind = .release := by
  decide
theorem witness_AbortedBlock_release_waits :
    let s (entries : List HoldEntry) (hold : Bool) : State :=
      { waitingStation with
        port.onLine := some ⟨.release, ⟨100, 1, 0, []⟩, 3, true⟩, holdQueue.entries := entries, release.hold := hold }
    let kept (entries : List HoldEntry) := (s entries false).holdQueue.entries.filter (fun h => h.seq != valueSeq 100)
    (s [held 100, held 101] false).group.mode = .active ∧ slotOf (s [] false).port .release = none ∧
      kept [held 100, held 101] = held 101 :: [] ∧ (s [] false).release.e ≠ some (held 101).seq ∧ kept [held 100] = [] ∧
      (s [] true).release.hold = true := by decide
/-- R11, R154, R157: a SKIP dropped where every horizon is ahead of E is placed again by the evidence skip, and a MARK dropped
leaves its slot empty; either counts one dropped block. -/
theorem witness_AbortedBlock_evidence :
    let s : State := { waitsFor2 .absent with port.onLine := some (skipOnLine 3 true) }
    let t := after .sendAbort s
    (slotOf s.port .skip = none ∧ 3 ≤ (skipOnLine 3 true).fails) ∧ t.port.skip = some ⟨⟨100, 1, 0, []⟩, 0⟩ ∧
      t.port.onLine = none ∧ t.port.idleWait = 8 ∧ t.status.live.station.droppedBlocks = 1 ∧
      t.status.live.station.sendAborts = 1 ∧ t.status.live.station.badBlocks = 1 ∧
      (after .sendAbort { s with port.onLine := some ⟨.mark, farmMark 1, 3, true⟩ }).port.mark = none := by decide
/-- R151, R152: the entry behind a dropped RELEASE begins to wait, and the skip timer is loaded, FROZEN while HOLD is on. -/
theorem test_dropped_release :
    let s (hold : Bool) : State :=
      { active with
        port.onLine := some ⟨.release, ⟨100, 1, 0, []⟩, 3, true⟩, holdQueue.entries := [held 100, held 101], release.hold := hold }
    (after .sendAbort (s false)).release.skipTimer = .running 80000 ∧
      (after .sendAbort (s true)).release.skipTimer = .frozen 80000 := by decide
theorem witness_AbortedBlock_withdrawn :
    let x : OnLine := ⟨.release, ⟨100, 1, 0, []⟩, 0, false⟩
    ({ waitingStation with port.onLine := some x } : State).port.onLine = some x ∧ x.kind = .release ∧ x.retry = false ∧
      slotOf waitingStation.port .release = none := by decide

/-- A station that has judged an offer of 16 bytes and is CLAIMING, its CLAIM on the line or pending. -/
def claiming (x : Option OnLine) : State :=
  { withA serving active with
    port :=
      { BusPort.reset with
        onLine := x
        latch := some ⟨some ⟨16, true, true⟩, List.replicate 16 0, 16⟩
        slotOpen := true }
    sequencer := ⟨some 7, .claiming, some .wellFormed, some (biddingFor 16 (withA serving active))⟩ }

/-- The own CLAIM on the line. -/
def claimOnLine : OnLine := ⟨.claim, ⟨1102, 1, 0, [0, 7, 0, 16]⟩, 0, true⟩

theorem witness_AbortedBlock_claim :
    let s := claiming (some claimOnLine)
    s.port.onLine = some claimOnLine ∧ claimOnLine.kind = .claim ∧ s.port.slotOpen = true ∧
      s.sequencer.phase = .claiming ∧ s.sequencer.verdict = some .wellFormed ∧
      s.sequencer.bidding = some (biddingFor 16 (withA serving active)) ∧
      (biddingFor 16 (withA serving active)).active = true ∧
      ({ active with port.onLine := some claimOnLine } : State).port.slotOpen = false := by decide
theorem witness_BlocksAndTimeoutsCloseTheClaimSlot :
    (⟨.reply, ⟨0, 1, 0, []⟩, 0, true⟩ : OnLine).kind = .reply ∧
      ((claiming none).port.slotOpen = true ∧ (claiming none).port.onLine = none ∧
        (claiming none).port.receiveBuffer = none ∧ (claiming none).port.dominant = false ∧
        ownOnLine (claiming none).port .claim = false) ∧
      active.port.slotOpen = false ∧ ownOnLine (claiming (some claimOnLine)).port .claim = true := by decide

/-! ### Witnesses: OFFER and CLAIM -/

/-- An OFFER of `n` bytes whose length field says `l`. -/
def offerOf (l n : Nat) : BusBlock := ⟨0, bridgeAddress, 0, byte2 l ++ [0xC0] ++ List.replicate n 0⟩

theorem witness_OfferIsLatchedAndJudged :
    ((offerOf 16 16).sender = bridgeAddress ∧ active.port.slotOpen = false) ∧
      offerVerdict (offerOfBody (offerOf 15 15).body) = .malformed ∧
      offerVerdict (offerOfBody (offerOf 16 16).body) = .wellFormed ∧
      offerVerdict (offerOfBody (offerOf 256 256).body) = .wellFormed ∧
      offerVerdict (offerOfBody (offerOf 257 257).body) = .malformed ∧
      offerVerdict (offerOfBody (offerOf 16 17).body) = .malformed ∧ offerVerdict (offerOfBody [0, 16]) = .malformed ∧
      (active.group.mode = .active ∧ listening.group.mode ≠ .active ∧ active.group.number = some .n1 ∧
        active.sequencer.ns = some 7) ∧
      (biddingFor 16 active).candidate = none ∧ (biddingFor 16 (withA serving active)).candidate = some ⟨.a, 1102⟩ ∧
      (claiming none).port.slotOpen = true ∧ (stationOfAddress 5).isSome = true ∧
      ({ offerOf 16 16 with sender := 6 } : BusBlock).sender.toNat = 6 := by decide
/-- R41: the CLAIM of the candidate stands in its slot after the OFFER. -/
theorem test_offer_claims :
    (after (.offer (offerOf 16 16)) (withA serving active)).port.claim = some ⟨⟨1102, 1, 0, [0, 7, 0, 16]⟩, 0⟩ := by decide
theorem witness_WonClaimAppendsTheFragment :
    let s := claiming (some claimOnLine)
    s.group.mode = .active ∧ s.port.onLine = some claimOnLine ∧ claimOnLine.kind = .claim ∧
      claimOnLine.block.body.length = 4 ∧ (stationOfAddress claimOnLine.block.sender).isSome = true ∧
      s.port.slotOpen = true ∧ s.port.latch = some ⟨some ⟨16, true, true⟩, List.replicate 16 0, 16⟩ ∧
      inService (line s .a) = true ∧ inService (line (withA (unit .quiet) s) .a) = false := by decide
/-- R45, R67: the fragment joins pair A with the sequence number 7, and NS is 8. -/
theorem test_won_claim :
    let t := after (.claim .own) (claiming (some claimOnLine))
    (line t .a).queue.map (·.seq) = [7] ∧ t.sequencer.ns = some 8 ∧ t.status.live.station.claimsWon = 1 := by decide
theorem witness_ClaimOfAnotherStationMovesNs :
    let blk : BusBlock := ⟨900, 5, 3, [0, 9, 0, 16]⟩
    claimAdmitted blk = true ∧ claimAdmitted { blk with sender := 6 } = false ∧
      ownOnLine (claiming none).port .claim = false ∧ (claiming none).group.mode = .active ∧
      (claiming none).port.slotOpen = true ∧ (claiming none).sequencer.phase = .claiming ∧
      ({ listening with group.join.values := some ⟨7, 100⟩ } : State).group.join.values = some ⟨7, 100⟩ := by decide
/-- A station in CONFLICT with a claim slot open. -/
def conflicting : State := { claiming none with group.mode := .conflict }

theorem witness_Claim_elsewhere :
    (conflicting.group.mode ≠ .active ∧ conflicting.group.mode ≠ .listening ∧ conflicting.port.slotOpen = true ∧
        conflicting.sequencer.phase = .claiming ∧ ownOnLine conflicting.port .claim = false) ∧
      reading.group.mode ≠ .active ∧ reading.group.mode ≠ .listening ∧ reading.port.slotOpen = false ∧
      listening.group.mode = .listening ∧ listening.group.join.values = none := by decide
/-- R47, R22: in LISTENING with the join values present a CLAIM closes an open slot and moves the join NS. -/
theorem witness_Claim_in_listening :
    let s : State :=
      { claiming none with group := { listening.group with join.values := some ⟨7, 100⟩ } }
    let t := after (.claim (.heard ⟨900, 5, 3, [0, 9, 0, 16]⟩)) s
    (s.group.mode = .listening ∧ s.group.join.values = some ⟨7, 100⟩ ∧ s.port.slotOpen = true) ∧
      t.group.join.values = some ⟨10, 100⟩ ∧ t.port.slotOpen = false ∧ t.port.latch = none ∧
      t.sequencer.phase = .idle ∧ t.status.live.station.claimsLost = 1 := by decide
/-- R43, R44: another station's CLAIM in CONFLICT moves no NS and closes the slot with a claim lost. -/
theorem test_claim_in_conflict :
    let t := after (.claim (.heard ⟨900, 5, 3, [0, 9, 0, 16]⟩)) conflicting
    t.sequencer.ns = some 7 ∧ t.port.slotOpen = false ∧ t.status.live.station.claimsLost = 1 := by decide

/-! ### Witnesses: RELEASE, SKIP, REBASE, HOLD and QUERY -/

/-- A RELEASE of number 100 with 16 bytes. -/
def release100 : BusBlock := ⟨100, 2, 0, [0, 16, 0x80] ++ List.replicate 16 0⟩

theorem witness_ReleaseMovesE :
    let joining : State := { listening with group.join.values := some ⟨7, 100⟩ }
    releaseAdmitted release100 = true ∧ releaseAdmitted { release100 with sender := 7 } = false ∧
      active.group.mode = .active ∧ active.release.e = some 100 ∧
      ({ active with port.onLine := some ⟨.release, release100, 0, true⟩ } : State).port.onLine =
        some ⟨.release, release100, 0, true⟩ ∧
      joining.group.mode = .listening ∧ joining.group.join.values = some ⟨7, 100⟩ := by decide
theorem witness_SkipAndRebaseMoveE :
    (stationOfAddress 5).isSome = true ∧ (stationOfAddress 6).isSome = false ∧ active.group.mode = .active ∧
      active.release.e = some 100 ∧ (skipOnLine 0 true).kind = .skip ∧
      (⟨.rebase, ⟨600, 1, 0, []⟩, 0, true⟩ : OnLine).kind = .rebase := by decide
theorem witness_MovesOfE_elsewhere :
    let s (x : OnLine) : State := { conflicting with port.onLine := some x }
    (conflicting.group.mode ≠ .active ∧ conflicting.group.mode ≠ .listening) ∧ listening.group.join.values = none ∧
      (s (skipOnLine 0 true)).port.onLine = some (skipOnLine 0 true) ∧ (skipOnLine 0 true).kind = .skip ∧
      (⟨.release, release100, 0, true⟩ : OnLine).kind = .release := by decide
theorem witness_HoldTurnsOnAndOff :
    let on : BusBlock := ⟨0, bridgeAddress, 0, [1]⟩
    let off : BusBlock := ⟨0, bridgeAddress, 0, [0]⟩
    let holding : State := { active with release := ⟨some 100, false, true, .running 0, .frozen 0⟩ }
    (active.group.mode = .active ∧ active.group.number = some .n1 ∧ active.release.e = some 100) ∧
      on.body.head? = some 1 ∧ off.body.head? = some 0 ∧ on.sender = bridgeAddress ∧ active.release.hold = false ∧
      holding.release.hold = true ∧ holding.release.holdTimer = .running 0 ∧
      ({ on with sender := 6 } : BusBlock).sender ≠ bridgeAddress := by decide
theorem witness_Hold_in_listening :
    let s : State := { listening with release := ⟨none, false, true, .running 0, .stopped⟩ }
    let none2 : BusBlock := ⟨0, bridgeAddress, 0, [2]⟩
    (s.group.mode = .listening ∧ s.release.hold = true ∧ s.release.holdTimer = .running 0) ∧
      listening.release.hold = false ∧ none2.sender = bridgeAddress ∧ none2.body.head? ≠ some 1 ∧ none2.body.head? ≠ some 0 ∧
      (reading.group.mode ≠ .listening ∧ reading.group.mode ≠ .active) := by decide
theorem witness_HoldLimit_not_due :
    let s : State := { active with release := ⟨some 100, false, true, .running 1, .stopped⟩ }
    s.release.holdTimer = .running 1 ∧ after .holdLimitExpiry s = s := by decide
theorem witness_QueryIsAnsweredInTheReplySlot :
    active.group.mode = .active ∧ active.group.number = some .n1 ∧ (3 : Byte) = BitVec.ofNat 8 (pairIndex .d) ∧
      4 ≤ (4 : Byte).toNat ∧ (7 : Byte).toNat < 8 ∧ 8 ≤ (8 : Byte).toNat ∧ (15 : Byte).toNat < 16 ∧
      16 ≤ (16 : Byte).toNat ∧ (query 1 0).body.length = 3 ∧ ({ query 1 0 with sender := 3 } : BusBlock).sender ≠ bridgeAddress ∧
      ({ query 1 0 with body := [1, 1] } : BusBlock).body.length < 3 ∧ listening.group.mode ≠ .active ∧
      (((query 1 0).body.set 0 6).getD 0 0).toNat ≠ stationIndex .n1 := by decide
/-- R168, R171, R172, R181: the sizes of the contents: identity 6, station 47, pair 25, counters and events. -/
theorem test_reply_sizes :
    (identityContents active).length = 6 ∧ (stationContents active).length = 47 ∧
      (pairContents (line active .a)).length = 25 ∧
      (List.range 8).map (fun g => (countersContents g active).length) = [13, 29, 21, 23, 61, 61, 61, 61] ∧
      (eventsContents 0 active).length = 12 := by decide
theorem witness_SnapshotAndRingQueriesAct :
    active.group.number = some .n1 ∧ (1 : Byte).toNat = stationIndex .n1 ∧ (6 : Byte) = 6 ∧ (0 : Byte) ≠ 6 ∧
      (0 : Byte).toNat ≠ stationIndex .n1 ∧ active.group.mode = .active := by decide

/-! ### Witnesses: the line units before service -/

theorem witness_LitRunLeadsFromQuietToTrain :
    let u : LineUnit := { unit .detect with monitor := .running 0, litCount := 2, unlitCount := 3, lit := true }
    ({ unit .quiet with holdOff := .running 0 } : LineUnit).holdOff = .running 0 ∧ LineUnit.reset.holdOff = .held ∧
      LineUnit.reset.state = .quiet ∧ (u.state = .detect ∧ frameSizeOk .wake (frame 0 [1, 0]) = true) ∧
      u.monitor = .running 0 ∧ u.litCount < 3 ∧ u.litCount = 2 ∧ u.lit = true ∧ 3 ≤ u.unlitCount ∧
      (unit .detect).lit = false ∧ (unit .detect).litCount < 2 ∧ (unit .detect).unlitCount < 3 := by decide
/-- R88, R90: the third lit period enters TRAIN. -/
theorem test_third_lit_period :
    let u : LineUnit := { unit .detect with monitor := .running 0, litCount := 2, lit := true, detect := .running 9 }
    let t := line (after (.monitorPeriodEnd .a) (withA u active)) .a
    t.state = .train ∧ t.detect = .stopped ∧ t.training = .running 32768000 := by decide

/-- A PARAMS of the cabinet end: min 8, max 200, C 60,000. -/
def cabinetParams (held : Bool) : Frame :=
  ⟨if held then 16 else 0, 7, 0, 5, [2] ++ byte2 8 ++ byte2 200 ++ byte3 60000⟩

theorem witness_ParamsAreCheckedAndEndTheirPhase :
    let kept : LineUnit := { unit .train with farParams := some ⟨2, 8, 200, 60000⟩ }
    frameSizeOk .params (cabinetParams true) = true ∧ frameSizeOk .params (cabinetParams false) = true ∧
      (unit .detect).state = .detect ∧ (unit .train).train.phase = .params ∧ (unit .train).farParams = none ∧
      (paramsOf (cabinetParams true)).role ≠ roleByte (config active).role ∧
      (paramsOf { cabinetParams true with body := [1, 0, 8, 0, 8, 0, 0, 0] }).role = roleByte (config active).role ∧
      min 256 7 < max 8 (8 : Nat) ∧ max 8 8 ≤ min 256 (200 : Nat) ∧ frameYoursHeld (cabinetParams true) = true ∧
      frameYoursHeld (cabinetParams false) = false ∧ (unit .train).train.evidence = false ∧
      kept.farParams.isSome = true := by decide
/-- R92, R93: at the farm end the cabinet's search comes first, over 8 to 200. -/
theorem test_params :
    let t := line (after (.params .a (cabinetParams true)) (withA (unit .train) active)) .a
    t.train.phase = .receiving ∧ t.train.lo = 8 ∧ t.train.hi = 200 ∧ t.farCeiling = 60000 := by decide

/-- The built-in defaults with the CABINET role. -/
def cabinet : State := { active with group.record := some { StartRecord.defaults with role := .cabinet } }

theorem witness_Params_end_by_a_probe_or_verdict :
    let kept : LineUnit := { unit .train with farParams := some ⟨2, 8, 200, 60000⟩ }
    kept.state = .train ∧ kept.train.phase = .params ∧ kept.farParams.isSome = true ∧ (unit .train).farParams = none ∧
      (config active).role = .farm ∧ (config cabinet).role = .cabinet ∧
      frameSizeOk .probe ⟨0, 53, 0, 5, List.replicate 54 0⟩ = true ∧ frameSizeOk .verdict ⟨0, 1, 0, 5, [60, 1]⟩ = true := by decide
theorem witness_Params_repeated_and_later :
    let kept (phase : TrainPhase) (evidence : Bool) : LineUnit :=
      { unit .train with
        farParams := some ⟨2, 8, 200, 60000⟩, train := { TrainRecord.start with phase := phase, evidence := evidence } }
    ((kept .params true).train.evidence = true ∧ (kept .params false).train.evidence = false ∧
        (kept .params true).farParams.isSome = true ∧ frameYoursHeld (cabinetParams false) = false) ∧
      ((kept .closing false).state = .train ∧ (kept .closing false).train.phase ≠ .params) ∧
      (line (after (.params .a (cabinetParams false)) (withA (kept .params true) active)) .a).train.phase = .receiving ∧
      (line (after (.params .a (cabinetParams false)) (withA (kept .params false) active)) .a).train.phase = .params ∧
      (line (after (.params .a (cabinetParams true)) (withA (kept .closing false) active)) .a).train.phase = .closing := by
  decide

/-- A sender in its first burst at rate 8, lo 8 and hi 256. -/
def sending : LineUnit :=
  { unit .train with
    train :=
      { TrainRecord.start with
        phase := .sending, paramsFill := false, lo := 8, hi := 256, search := some (searchStart 8),
        deadline := .running 0 } }

/-- A clean burst VERDICT, and a failed one. -/
def verdictOf (burst : BitVec 16) (clean : Byte) : Frame := ⟨0, 1, burst, 5, [60, clean]⟩

theorem witness_SenderTakesEachBurstResult :
    sending.state = .train ∧ sending.train.phase = .sending ∧ sending.train.search = some ⟨.rising, 8, none, none, 1⟩ ∧
      sending.train.deadline = .running 0 ∧ frameSizeOk .verdict (verdictOf 1 1) = true ∧
      (frameSeq (verdictOf 1 1)).toNat = 1 ∧ (frameSeq (verdictOf 2 1)).toNat ≠ 1 ∧
      searchStep 8 256 (verdictClean (verdictOf 1 1)) ⟨.rising, 8, none, none, 1⟩ =
        .next ⟨.rising, 16, some 8, none, 2⟩ ∧
      searchStep 8 256 true ⟨.rising, 256, some 128, none, 6⟩ = .done 256 ∧
      searchStep 8 256 false ⟨.rising, 8, none, none, 1⟩ = .floor ∧
      searchStep 8 256 false ⟨.rising, 16, some 8, none, 2⟩ = .next ⟨.halving, 12, some 8, some 16, 3⟩ ∧
      searchStep 8 256 false ⟨.halving, 9, some 8, some 10, 5⟩ = .done 8 := by decide
theorem witness_Sender_other_verdicts :
    let u (x : TrainPhase) : LineUnit := { unit .train with train := { TrainRecord.start with phase := x } }
    frameSizeOk .verdict (verdictOf 1 1) = true ∧ (u .receiving).train.phase = .receiving ∧ (u .echo).train.phase = .echo ∧
      (u .closing).train.phase = .closing ∧ (u .sending).train.phase = .sending ∧
      (u .sending).train.deadline = .stopped := by decide
theorem witness_Sender_closing :
    let u : LineUnit :=
      { unit .train with
        train := { TrainRecord.start with phase := .closing, closingWait := .running 0 }
        tx := some ⟨.closingProbe 150, 3, 1⟩ }
    u.train.phase = .closing ∧ frameSizeOk .verdict (verdictOf 0 1) = true ∧ u.train.closingWait = .running 0 ∧
      u.tx = some ⟨.closingProbe 150, 3, 1⟩ := by decide

/-- A receiver of bursts with burst 2 open. -/
def receiving : LineUnit :=
  { unit .train with
    train :=
      { TrainRecord.start with
        phase := .receiving, lo := 8, hi := 256, judge := some ⟨2, 61, false⟩, window := .running 0 } }

/-- PROBE `index` of burst `burst` at rate 8. -/
def probe (burst : Byte) (index : BitVec 16) : Frame :=
  ⟨0, 53, index, 5, [burst, 0, 8] ++ List.replicate 51 0⟩

theorem witness_ReceiverJudgesEachBurst :
    receiving.state = .train ∧ receiving.train.phase = .receiving ∧ frameSizeOk .probe (probe 2 63) = true ∧
      receiving.train.judge = some ⟨2, 61, false⟩ ∧ (2 < bodyByte (probe 3 0).body 0) ∧
      bodyByte (probe 2 63).body 0 = 2 ∧ bodyByte (probe 1 0).body 0 < 2 ∧ (frameSeq (probe 2 62)).toNat < 63 ∧
      (frameSeq (probe 2 63)).toNat = 63 ∧ receiving.train.window = .running 0 ∧ (unit .train).train.judge = none ∧
      (config active).role = .farm ∧
      (config { active with group.record := some { StartRecord.defaults with role := .cabinet } }).role = .cabinet := by
  decide
theorem witness_Receiver_later_phases :
    let u (x : TrainPhase) : LineUnit := { unit .train with train := { TrainRecord.start with phase := x } }
    (u .closing).state = .train ∧ frameSizeOk .probe (probe 2 0) = true ∧ (config cabinet).role = .cabinet ∧
      (config active).role = .farm ∧ (u .closing).train.phase = .closing ∧ (u .sending).train.phase = .sending ∧
      (u .echo).train.phase = .echo := by decide
/-- R96: a PROBE acknowledges the cabinet end's closing PROBE and is counted, and a repeat is answered at the farm end. -/
theorem test_closing_acknowledged_and_repeated :
    let u (x : TrainPhase) : LineUnit := { unit .train with train := { TrainRecord.start with phase := x } }
    let v := (line (after (.probe .a (probe 1 0)) (withA (u .closing) cabinet)) .a).train
    (v.phase = .receiving ∧ v.judge = some ⟨1, 1, false⟩) ∧
      (line (after (.closingProbe .a { probe 0 0 with flags := 32 }) (withA (u .sending) active)) .a).train.verdict =
        some (.closing 8) := by decide
/-- R95: the 62nd good PROBE, which is the last of its burst, makes the VERDICT clean; 61 do not. -/
theorem test_burst_verdict :
    (line (after (.probe .a (probe 2 63)) (withA receiving active)) .a).train.verdict = some (.burst 2 62 true) ∧
      (line (after (.burstWindowClose .a) (withA receiving active)) .a).train.verdict = some (.burst 2 61 false) := by
  decide

theorem witness_EchoMeasuresTheDelay :
    let u : LineUnit := { unit .train with tx := some ⟨.echoAsk, 3, 120⟩, train := { TrainRecord.start with phase := .closing } }
    let v : LineUnit := { unit .train with tx := some ⟨.echo 1750, 3, 120⟩, train := { TrainRecord.start with measured := true } }
    u.state = .train ∧ u.tx = some ⟨.echoAsk, 3, 120⟩ ∧ v.tx = some ⟨.echo 1750, 3, 120⟩ ∧ u.train.measured = false ∧
      v.train.measured = true ∧ frameSizeOk .echoAsk (frame 0 [0, 0]) = true ∧ u.train.phase ≠ .params ∧
      ((config active).role = .farm ∧ u.train.phase = .closing) ∧ TrainPhase.echo ≠ .closing ∧
      frameSizeOk .echo (frame 0 (byte2 1750)) = true ∧ (line echoWait .a).train.t1 = some 0 ∧
      (line echoWait .a).train.echoDeadline = .running 93370 ∧ (line echoWait .a).train.measured = false ∧
      (line echoWait .a).train.echoSent = false := by decide
theorem witness_Echo_ignored :
    let u := line echoWait .a
    let second : LineUnit := { u with delay := 9, train := { u.train with measured := true, echoDeadline := .stopped } }
    let unasked : LineUnit := { u with train := { u.train with t1 := none } }
    frameSizeOk .echo (frame 0 (byte2 1750)) = true ∧ second.state = .train ∧ second.train.measured = true ∧
      second.train.echoDeadline = .stopped ∧ unasked.train.t1 = none ∧
      (line (after (.echo .a (frame 0 (byte2 1750))) (withA second echoWait)) .a).delay = 9 ∧
      (line (after (.echo .a (frame 0 (byte2 1750))) (withA unasked echoWait)) .a).train.measured = false ∧
      (unit .train).train.phase = .params ∧
      (line (after (.echoAsk .a (frame 0 [0, 0])) (withA (unit .train) active)) .a).train.echoReply = none := by decide

/-- A line unit in QUALIFY with 511 good TEST frames and 4 bad ones. -/
def qualifying : LineUnit :=
  { unit .qualify with
    trainedSend := 120, trainedRecv := 150, qualification := .running 0, rxExpected := some 5,
    qualify := ⟨511, 4, false, true, 0⟩ }

/-- The TEST frame of index 0. -/
def test0 : Frame := ⟨0, 117, 0, 5, testBody 0⟩

theorem witness_QualifyPassesIntoService :
    qualifying.state = .qualify ∧ frameSizeOk .test test0 = true ∧ qualifying.qualify.ownPass = false ∧
      qualifying.qualify.bad + framesLost qualifying test0 = 4 ∧ test0.body = testBody (frameSeq test0) ∧
      qualifying.qualify.good = 511 ∧ qualifying.qualify.farQualified = true ∧ (unit .qualify).qualify.good < 511 ∧
      (unit .qualify).qualify.farQualified = false ∧ { test0 with seq := 1 }.body ≠ testBody (frameSeq { test0 with seq := 1 }) ∧
      frameSizeOk .qualified (frame 0 [0, 0]) = true ∧
      ({ qualifying with qualify := ⟨512, 0, true, false, 0⟩ } : LineUnit).qualify.ownPass = true ∧
      5 ≤ qualifying.qualify.bad + framesLost qualifying { test0 with count := 6 } := by decide
/-- R101, R102: the 512th good TEST frame with the far QUALIFIED come brings SERVICE at the trained rates. -/
theorem test_qualified :
    let t := after (.test .a test0 14) (withA qualifying active)
    (line t .a).state = .service ∧ (line t .a).sendRate = 120 ∧ (line t .a).recvRate = 150 ∧ (line t .a).margin = 14 ∧
      t.status.ring.map (·.kind) = [.serviceEntry] := by decide
theorem witness_FailureRaisesKAndReturnsToQuiet :
    ({ unit .detect with detect := .running 0, k := 7 } : LineUnit).detect = .running 0 ∧ (unit .train).state = .train ∧
      ({ unit .train with train.echoDeadline := .running 0 } : LineUnit).train.echoDeadline = .running 0 ∧
      ({ unit .train with training := .running 0 } : LineUnit).training = .running 0 ∧
      qualifying.qualification = .running 0 := by decide

/-- A line unit each of whose timers has one microsecond left. -/
def notDue (x : LineState) : LineUnit :=
  { unit x with
    holdOff := .running 1, monitor := .running 1, detect := .running 1, training := .running 1, qualification := .running 1,
    serviceClock := .running 1,
    train := { TrainRecord.start with deadline := .running 1, window := .running 1, closingWait := .running 1, echoDeadline := .running 1 },
    svc :=
      { ServiceRecord.clear with
        losHold := .running 1, reRateCheck := .running 1, reRateTimer := .running 1,
        windDown := some ⟨.errors, .running 1, false, false, false, none⟩ } }

/-- A station whose pair A has a line unit none of whose timers is due. -/
def notDueIn (x : LineState) (phase : TrainPhase) : State :=
  withA { notDue x with train := { (notDue x).train with phase := phase } } active

/-- The clauses that say what an expiry does while its timer has time left: here it has no effect. -/
theorem witness_before_service_not_due :
    after (.holdOffExpiry .a) (notDueIn .quiet .params) = notDueIn .quiet .params ∧
      after (.monitorPeriodEnd .a) (notDueIn .detect .params) = notDueIn .detect .params ∧
      after (.detectTimeout .a) (notDueIn .detect .params) = notDueIn .detect .params ∧
      after (.trainingTimeout .a) (notDueIn .train .params) = notDueIn .train .params ∧
      after (.echoTimeout .a) (notDueIn .train .echo) = notDueIn .train .echo ∧
      after (.qualificationTimeout .a) (notDueIn .qualify .params) = notDueIn .qualify .params := by decide
theorem witness_training_steps_not_due :
    after (.verdictDeadline .a) (notDueIn .train .sending) = notDueIn .train .sending ∧
      after (.closingProbeRepeat .a) (notDueIn .train .closing) = notDueIn .train .closing ∧
      after (.burstWindowClose .a) (notDueIn .train .receiving) = notDueIn .train .receiving ∧
      frameSizeOk .probe (probe 2 63) = true := by decide
theorem witness_in_service_not_due :
    after (.monitorPeriodEnd .a) (notDueIn .service .params) = notDueIn .service .params ∧
      after (.serviceClock60s .a) (notDueIn .service .params) = notDueIn .service .params ∧
      after (.losHoldExpiry .a) (notDueIn .service .params) = notDueIn .service .params ∧
      after (.reRateCheck .a 5) (notDueIn .service .params) = notDueIn .service .params ∧
      after (.reRateTimeout .a) (notDueIn .service .params) = notDueIn .service .params ∧
      after (.windDownLimit .a) (notDueIn .windDown .params) = notDueIn .windDown .params := by decide
/-- R85: k at an exit rises while the service clock shows less than 60 s, is 0 when it has come to 60 s, and stays after. -/
theorem test_k_at_exit :
    let k (clock : Timer) := (line (after (.losHoldExpiry .a)
      (withA { serving with k := 3, serviceClock := clock, svc := { serving.svc with losHold := .running 0 } } active)) .a).k
    k (.running 60000000) = 4 ∧ k (.running 1) = 4 ∧ k (.running 0) = 0 ∧ k .stopped = 3 := by decide
/-- R163: an expiry taken after the skip timer was loaded again places no SKIP. -/
theorem test_skip_expiry_after_a_move :
    let s := after (.skip (.heard ⟨100, 2, 0, []⟩)) { waitingStation with holdQueue := ⟨[held 105], 0⟩ }
    (∃ n, s.release.skipTimer = .running (n + 1)) ∧ (after .skipTimerExpiry s).port.skip = s.port.skip :=
  ⟨⟨79999, by decide⟩, by decide⟩

/-! ### Witnesses: the line units in service -/

/-- A pair in SERVICE at the end of an errored window's last period. -/
def lastPeriod : LineUnit :=
  { serving with svc := { serving.svc with windowPeriods := 999, windowErrored := 99, darkRun := 2 } }

theorem witness_ServicePeriodIsJudged :
    let lossy : LineUnit := { serving with los := true, svc := { serving.svc with good := true, nonDarkRun := 2 } }
    inService lastPeriod = true ∧ lastPeriod.monitor = .running 0 ∧ lastPeriod.serviceClock = .running 0 ∧
      lastPeriod.svc.windowPeriods ≤ 999 ∧ (!lastPeriod.svc.good) = true ∧ 2 ≤ lastPeriod.svc.darkRun ∧
      (config active).errorThreshold ≤ lastPeriod.svc.windowErrored + 1 ∧ serving.svc.windowPeriods < 999 ∧
      serving.svc.darkRun < 2 ∧ serving.los = false ∧ lossy.los = true ∧ (!lossy.svc.good) = false ∧
      2 ≤ lossy.svc.nonDarkRun ∧ serving.svc.nonDarkRun < 2 ∧ inService (unit .windDown) = true := by decide
/-- R110: 100 errored periods of the thousand start a wind-down; R108: the third dark one turns LOS on. -/
theorem test_window :
    let t := line (after (.monitorPeriodEnd .a) (withA lastPeriod active)) .a
    t.state = .windDown ∧ t.los = true ∧ t.ctl.windDown = some .errors ∧ t.svc.losHold = .stopped := by decide

/-- A pair in SERVICE whose streaks stand at 2. -/
def streaks (rate down up : Nat) : LineUnit :=
  { serving with recvRate := rate, svc := { serving.svc with downStreak := down, upStreak := up, reRateTimer := .running 0 } }

theorem witness_ReRateCheckAsksOrWindsDown :
    (streaks 64 2 0).state = .service ∧ (streaks 64 2 0).svc.reRateCheck = .running 0 ∧
      (streaks 64 2 0).svc.request = false ∧ (5 : BitVec 6).toNat < 6 ∧ (streaks 64 2 0).svc.downStreak = 2 ∧
      (streaks 64 0 1).svc.upStreak < 2 ∧ (config active).minRate ≤ 64 - (64 + 3) / 4 ∧
      8 - (8 + 3) / 4 < (config active).minRate ∧ 18 < (19 : BitVec 6).toNat ∧
      (streaks 64 0 2).recvRate < (streaks 64 0 2).trainedRecv ∧ (streaks 64 0 2).svc.upStreak = 2 ∧
      6 ≤ (6 : BitVec 6).toNat ∧ (18 : BitVec 6).toNat ≤ 18 ∧ (streaks 128 0 0).trainedRecv ≤ 128 ∧
      (streaks 64 0 0).svc.reRateTimer = .running 0 ∧ frameSizeOk .windDown (frame 0 [0, 0]) = true ∧
      ({ streaks 64 0 0 with svc.request := true } : LineUnit).svc.request = true := by decide
/-- R118: at receive rate 8 the third low check winds the pair down for MARGIN. -/
theorem test_margin_wind_down :
    let t := line (after (.reRateCheck .a 5) (withA (streaks 8 2 0) active)) .a
    t.state = .windDown ∧ t.ctl.windDown = some .margin ∧
      (t.svc.windDown.map (·.timer)) = some (.running 20000) := by decide

theorem witness_RateFramesMoveTheRates :
    let u (c : TxContent) : LineUnit := { serving with tx := some ⟨c, 3, 64⟩, svc.request := true }
    frameSizeOk .rateAsk (frame 0 (byte2 32)) = true ∧ frameSizeOk .rateSwitch (frame 0 (byte2 32)) = true ∧
      serving.state = .service ∧ serving.tx = none ∧ isRateSwitch (.rateSwitch 32) = true ∧
      (u (.rateSwitch 32)).tx = some ⟨.rateSwitch 32, 3, 64⟩ ∧ inService (u (.rateSwitch 32)) = true ∧
      (u (.rateAsk 32)).tx = some ⟨.rateAsk 32, 3, 64⟩ ∧ (u (.rateAsk 32)).svc.request = true ∧
      serving.svc.request = false ∧ (unit .windDown).state = .windDown := by decide
/-- R114: a RATE-ASK below the min service rate records the min service rate. -/
theorem test_rate_ask :
    (line (after (.rateAsk .a (frame 0 (byte2 3))) (withA serving active)) .a).svc.pendingTarget = some 8 := by decide

/-- A pair in WIND-DOWN with a wind-down record. -/
def windingDown (w : WindDownRecord) (queue : List Fragment) (tx : Option TxFrame) : LineUnit :=
  { serving with state := .windDown, queue := queue, tx := tx, svc := { ServiceRecord.clear with windDown := some w } }

/-- The own LEAVE on the pair. -/
def leaveFrame : TxFrame := ⟨.leave, 3, 64⟩

theorem witness_ExitEmptiesTheQueueAndReturnsToQuiet :
    ({ serving with svc.losHold := .running 0 } : LineUnit).svc.losHold = .running 0 ∧ leaving.timer = .running 0 ∧
      leaving.leaveStarted = true ∧ leaving.leaveEnded = false ∧
      (windingDown leaving [] (some leaveFrame)).tx = some ⟨.leave, 3, 64⟩ ∧
      (windingDown leaving [] none).svc.windDown = some leaving ∧ leaving.deferred = none ∧
      { leaving with farLeave := true }.farLeave = true ∧ leaving.farLeave = false ∧
      { leaving with deferred := some .windDownLimit }.deferred = some .windDownLimit ∧
      { leaving with leaveStarted := false }.leaveStarted = false ∧ { leaving with leaveEnded := true }.leaveEnded = true ∧
      (windingDown leaving [piece 6] none).queue ≠ [] ∧
      ({ unit .quiet with tx := some leaveFrame } : LineUnit).tx = some ⟨.leave, 3, 64⟩ ∧
      frameSizeOk .leave (frame 0 [0, 0]) = true ∧ (qualifying.qualify.bad + framesLost qualifying (frame 0 [0, 0]) < 5) ∧
      (unit .train).state = .train ∧ (unit .detect).state = .detect := by decide
/-- R76, R125: the end of the own LEAVE, the far LEAVE having come, ends the pair's service. -/
theorem test_wind_down_end :
    let t := after (.ownLeaveSent .a) (withA (windingDown { leaving with farLeave := true } [] (some leaveFrame)) active)
    (line t .a).state = .quiet ∧ t.status.ring.map (fun x => (x.kind, x.value)) = [(.leftService, 2)] := by decide

theorem witness_ServiceBoundaryChoosesInOrder :
    let u (c : CtlSlots) : LineUnit := { serving with ctl := c }
    inService serving = true ∧ serving.tx = none ∧ (u ⟨true, some .errors, some 32, true, some 32⟩).ctl.leave = true ∧
      (u ⟨false, some .errors, some 32, true, some 32⟩).ctl.windDown = some .errors ∧
      (u ⟨false, none, some 32, true, some 32⟩).ctl.rateSwitch = some 32 ∧
      (u ⟨false, none, none, true, some 32⟩).ctl.qualified = true ∧
      (u ⟨false, none, none, false, some 32⟩).ctl.rateAsk = some 32 ∧ serving.ctl = .empty ∧
      ({ serving with queue := [piece 6, piece 7] } : LineUnit).queue = piece 6 :: [piece 7] ∧ serving.queue = [] ∧
      ({ serving with tx := some ⟨.idle, 3, 64⟩ } : LineUnit).tx = some ⟨.idle, 3, 64⟩ := by decide
theorem witness_ServiceBoundary_frag_ends :
    let u := windingDown { leaving with farLeave := true, leaveEnded := true } [piece 6] (some ⟨.frag (piece 6), 3, 64⟩)
    inService u = true ∧ u.tx = some ⟨.frag (piece 6), 3, 64⟩ ∧ u.queue = piece 6 :: [] ∧ u.state = .windDown ∧
      (∀ w ∈ u.svc.windDown, w.farLeave = true ∧ w.leaveEnded = true) ∧ leaving.farLeave = false := by decide
/-- R78: the end of a FRAG and then an exit: the fragment is sent, the rest discarded, no frame is cut, and the LEAVE carries
the count after the FRAG's; with the exit first the FRAG is cut and discarded too. -/
theorem test_completion_and_exit :
    let s :=
      withA
        { serving with
          tx := some ⟨.frag (piece 6), 3, 64⟩, txCount := 4, queue := [piece 6, piece 7], svc.losHold := .running 0 } active
    let t := after (.losHoldExpiry .a) (after (.fragComplete .a) s)
    let v := after (.losHoldExpiry .a) s
    let c := t.status.live.pairs.a
    ((line t .a).tx = some ⟨.leave, 4, 64⟩ ∧ c.fragsSent = 1 ∧ c.bytesSent = 16 ∧ c.discarded = 1 ∧ c.idleFrames = 0) ∧
      (line v .a).tx = some ⟨.leave, 4, 64⟩ ∧ v.status.live.pairs.a.fragsSent = 0 ∧ v.status.live.pairs.a.discarded = 2 := by
  decide
/-- R69, R72: a RATE-SWITCH goes before a RATE-ASK and a FRAG. -/
theorem test_boundary_order :
    let u : LineUnit := { serving with ctl := ⟨false, none, some 32, false, some 16⟩, queue := [piece 6] }
    (line (after (.frameBoundary .a) (withA u active)) .a).tx = some ⟨.rateSwitch 32, 0, 64⟩ := by decide

theorem witness_BringUpBoundaryChoosesInOrder :
    let u (t : TrainRecord) : LineUnit := { unit .train with train := t }
    (unit .off).tx = none ∧ (unit .off).state = .off ∧ (unit .detect).state = .detect ∧ (unit .train).state = .train ∧
      (u { TrainRecord.start with echoReply := some 9 }).train.echoReply = some 9 ∧
      (u { TrainRecord.start with verdict := some (.burst 1 62 true) }).train.verdict = some (.burst 1 62 true) ∧
      (u { TrainRecord.start with verdict := some (.closing 150) }).train.verdict = some (.closing 150) ∧
      (u { TrainRecord.start with closingPending := true }).train.closingPending = true ∧
      (u { TrainRecord.start with echoAskPending := true }).train.echoAskPending = true ∧
      sending.train.search = some (searchStart 8) ∧
      ({ sending with train := { sending.train with probeNext := some 63 } } : LineUnit).train.probeNext = some 63 ∧
      (unit .train).train.search = none ∧ (unit .train).train.paramsFill = true ∧ sending.train.paramsFill = false ∧
      ((unit .qualify).state = .qualify ∧ (unit .qualify).ctl.leave = false ∧ (unit .qualify).ctl.qualified = false) ∧
      ({ unit .qualify with ctl := { CtlSlots.empty with leave := true } } : LineUnit).ctl.leave = true := by
  decide
theorem witness_FrameBoundary_ends_a_frame :
    let s (x : TxContent) : State := withA { unit .train with tx := some ⟨x, 3, 1⟩ } active
    (line (s (.wake .farm)) .a).tx = some ⟨.wake .farm, 3, 1⟩ ∧ (line (s .echoAsk) .a).tx = some ⟨.echoAsk, 3, 1⟩ ∧
      exec (.echoAskSent .a) (s .echoAsk) = .next (after (.echoAskSent .a) (s .echoAsk)) ∧
      (line (after (.echoAskSent .a) (s .echoAsk)) .a).tx = none :=
  ⟨rfl, rfl, rfl, rfl⟩
theorem witness_FrameCountIsChecked :
    inService serving = true ∧ frameSizeOk .idle (frame 0 [0, 0]) = true ∧ frameSizeOk .idle empty = false ∧
      (unit .detect).state = .detect ∧ (unit .train).state = .train ∧
      (({ qualifying with qualify := ⟨512, 0, true, false, 0⟩ } : LineUnit).state = .qualify) ∧
      (qualifying.qualify.ownPass = false ∧ qualifying.qualify.bad + 0 < 5 ∧ 5 ≤ qualifying.qualify.bad + 1) ∧
      framesLost qualifying { empty with count := 6 } = 1 ∧ (unit .quiet).state = .quiet ∧ (unit .off).state = .off ∧
      frameSizeOk .wake (frame 0 [1, 0]) = true ∧ frameSizeOk .rateAsk (frame 0 [1, 0]) = true ∧
      frameSizeOk .wake empty = false := by decide
/-- R74: a LEAVE in QUIET, and a PARAMS in QUALIFY of a good size or a wrong one, do no more than the count check. -/
theorem test_frames_not_acted_on :
    after (.leave .a (frame 0 [0, 0])) (withA (unit .quiet) active) = withA (unit .quiet) active ∧
      after (.params .a (cabinetParams true)) (withA qualifying active) =
        withA { qualifying with rxExpected := some 6 } active ∧
      after (.params .a empty) (withA qualifying active) = withA { qualifying with rxExpected := some 6 } active := by decide
/-- R74: a count that runs over its 24 bits: 3 after FFFFFEh are four frames lost. -/
theorem test_frames_lost :
    framesLost { serving with rxExpected := some 0xFFFFFF } { empty with count := 3 } = 4 ∧
      framesLost { serving with rxExpected := none } { empty with count := 3 } = 0 := by decide

/-- A FRAG with number `q` and 16 bytes. -/
def fragOf (q : BitVec 16) : Frame := ⟨0x80, 15, q, 5, List.replicate 16 0⟩

theorem witness_FragIsHandedToTheHoldQueue :
    frameSizeOk .frag (fragOf 101) = true ∧ frameSizeOk .frag { fragOf 101 with lenLess1 := 14 } = false ∧
      frameSizeOk .frag ⟨0x80, 255, 0, 5, List.replicate 256 0⟩ = true ∧ inService serving = true ∧
      active.group.mode = .active ∧ active.release.e = some 100 ∧ waiting active = false ∧
      waiting (classifyArrival 100 (held 101) active) = true ∧ waiting waitingStation = true ∧
      waiting (classifyArrival 100 (held 100) waitingStation) = false ∧
      waiting active = waiting (classifyArrival 100 (held 100) active) ∧ (unit .detect).state = .detect ∧
      (unit .train).state = .train ∧ qualifying.qualify.bad + framesLost qualifying (fragOf 101) < 5 := by decide
theorem witness_Frag_elsewhere :
    (inService serving = true ∧ conflicting.group.mode ≠ .active) ∧
      (qualifying.state = .qualify ∧ qualifying.qualify.ownPass = false ∧
        5 ≤ qualifying.qualify.bad + framesLost qualifying { fragOf 101 with count := 6 }) ∧
      (frameSizeOk .frag { fragOf 101 with lenLess1 := 14 } = false ∧ (unit .detect).state = .detect) ∧
      (unit .off).state = .off ∧ (unit .quiet).state = .quiet ∧
      (after (.frag .a (fragOf 101)) conflicting).holdQueue.entries = [] ∧
      (after (.frag .a { fragOf 101 with count := 6 }) (withA qualifying active)).status.live.station.outOfState = 0 := by decide
/-- R150: a FRAG that arrives at E is released at once; R152: one ahead of E starts the skip timer. -/
theorem test_frag_arrivals :
    (after (.frag .a (fragOf 100)) (withA serving active)).port.release.map (·.block.value) = some 100 ∧
      (after (.frag .a (fragOf 200)) (withA serving active)).port.release = none ∧
      (line (after (.frag .a (fragOf 200)) (withA serving active)) .a).lastReceived = some 200 := by decide

end Sys2Proof.Tests
end

/-! ## The delivery bid (R54 to R60) -/

namespace Sys2Proof.Machine

/-! ### The quotient rounded up (R58) -/

theorem ceilDiv_le_iff {d : Nat} (hd : 0 < d) (n m : Nat) : ceilDiv n d ≤ m ↔ n ≤ m * d := by
  rw [ceilDiv, ← Nat.ceilDiv_eq_add_pred_div, ceilDiv_le_iff_le_mul hd, Nat.mul_comm]

theorem le_ceilDiv_mul {d : Nat} (hd : 0 < d) (n : Nat) : n ≤ ceilDiv n d * d :=
  (ceilDiv_le_iff hd n _).mp le_rfl

theorem ceilDiv_le_self {d : Nat} (hd : 0 < d) (n : Nat) : ceilDiv n d ≤ n :=
  (ceilDiv_le_iff hd n n).mpr (Nat.le_mul_of_pos_right n hd)

/-! ### The backlog (R55) -/

@[simp] theorem backlog_of_queue_nil {u : LineUnit} (h : u.queue = []) : backlog u = 0 := by
  simp [backlog, h]

theorem backlog_of_lengths_eq {u : LineUnit} {m : Nat} (h : ∀ f ∈ u.queue, f.length = m) :
    backlog u = u.queue.length * (m + 10) := by
  have same : u.queue.map (fun f => f.length + 10) = u.queue.map (fun _ => m + 10) :=
    List.map_congr_left fun f hf => by rw [h f hf]
  rw [backlog, same, List.map_const', List.sum_replicate, smul_eq_mul]

theorem backlog_le_of_lengths_le {u : LineUnit} {m : Nat} (h : ∀ f ∈ u.queue, f.length ≤ m) :
    backlog u ≤ u.queue.length * (m + 10) := by
  have each : ∀ x ∈ u.queue.map (fun f => f.length + 10), x ≤ m + 10 :=
    List.forall_mem_map.mpr fun f hf => Nat.add_le_add_right (h f hf) 10
  simpa [backlog] using List.sum_le_card_nsmul _ _ each

/-! ### The effective rate (R56) -/

theorem effectiveRate_of_no_target {u : LineUnit} (h : u.svc.pendingTarget = none) :
    effectiveRate u = u.sendRate := by
  simp [effectiveRate, h]

theorem effectiveRate_of_target {u : LineUnit} {t : Nat} (h : u.svc.pendingTarget = some t) :
    effectiveRate u = min u.sendRate t := by
  simp [effectiveRate, h]

/-! ### The bid (R54, R58, R60) -/

section
variable {len : Nat} {u : LineUnit}

theorem delay_le_bidOf : u.delay ≤ bidOf len u := Nat.le_add_left _ _

theorem bidOf_sub_delay :
    bidOf len u - u.delay = ceilDiv ((backlog u + len + 10) * 250) (effectiveRate u) :=
  Nat.add_sub_cancel _ _

/-- R58: the part of the bid above the path delay is the least number of microseconds that covers the work. -/
theorem bidOf_le_add_delay_iff (hrate : 1 ≤ effectiveRate u) (n : Nat) :
    bidOf len u ≤ n + u.delay ↔ (backlog u + len + 10) * 250 ≤ n * effectiveRate u := by
  rw [bidOf, Nat.add_le_add_iff_right, ceilDiv_le_iff hrate]

theorem work_le_bidOf_sub_delay_mul (hrate : 1 ≤ effectiveRate u) :
    (backlog u + len + 10) * 250 ≤ (bidOf len u - u.delay) * effectiveRate u := by
  rw [bidOf_sub_delay]
  exact le_ceilDiv_mul hrate _

/-- R60, the lower end: 26 bytes at 256 take more than 25 µs, whatever the backlog and the delay add. -/
theorem le_bidOf (hlen : 16 ≤ len) (hrate : 1 ≤ effectiveRate u) (hmax : effectiveRate u ≤ 256) :
    26 ≤ bidOf len u := by
  by_contra hlow
  have covered : (backlog u + len + 10) * 250 ≤ 25 * effectiveRate u :=
    (bidOf_le_add_delay_iff hrate 25).mp (by omega)
  omega

/-- R60, the upper end: 33 fragments of 266 bytes at the lowest rate, and the longest delay. -/
theorem bidOf_le (hlen : len ≤ 256) (hqueue : u.queue.length ≤ 32) (hfrag : ∀ f ∈ u.queue, f.length ≤ 256)
    (hrate : 1 ≤ effectiveRate u) (hdelay : u.delay ≤ 16383) : bidOf len u ≤ 2210883 := by
  have hbacklog : backlog u ≤ u.queue.length * (256 + 10) := backlog_le_of_lengths_le hfrag
  have hquot := ceilDiv_le_self hrate ((backlog u + len + 10) * 250)
  rw [bidOf]
  omega

end

theorem bidOf_least {u : LineUnit} (hqueue : u.queue = []) (hrate : effectiveRate u = 256) (hdelay : u.delay = 0) :
    bidOf 16 u = 26 := by
  simp [bidOf, ceilDiv, hqueue, hrate, hdelay]

theorem bidOf_greatest {u : LineUnit} (hqueue : u.queue.length = 32) (hfrag : ∀ f ∈ u.queue, f.length = 256)
    (hrate : effectiveRate u = 1) (hdelay : u.delay = 16383) : bidOf 256 u = 2210883 := by
  simp [bidOf, ceilDiv, backlog_of_lengths_eq hfrag, hqueue, hrate, hdelay]

/-- Settles O17: exactness is the rounded-up quotient's own order law, and each end of the range is the bid at the
extremes of backlog, rate and delay. -/
theorem bidIsExactAndInRange : Obligations.BidIsExactAndInRange := by
  refine ⟨?range, fun _ => bidOf_least, fun _ => bidOf_greatest, fun u target => ⟨?none, ?lower, ?higher⟩⟩
  case range =>
    intro len u hlen hlen' hqueue hfrag hrate hmax hdelay
    have hfrag' : ∀ f ∈ u.queue, f.length ≤ 256 := fun f hf => (hfrag f hf).2
    exact ⟨le_bidOf hlen hrate hmax, bidOf_le hlen' hqueue hfrag' hrate hdelay, delay_le_bidOf,
      work_le_bidOf_sub_delay_mul hrate, fun n => (bidOf_le_add_delay_iff hrate n).mpr⟩
  case none => exact effectiveRate_of_no_target
  case lower =>
    intro htarget hlt
    rw [effectiveRate_of_target htarget, Nat.min_eq_right hlt.le]
  case higher =>
    intro htarget hle
    rw [effectiveRate_of_target htarget, Nat.min_eq_left hle]

end Sys2Proof.Machine

/-! ## The saturating counters and the pair event ring (R173, R176, R177) -/

namespace Sys2Proof.Machine

/-! ### The saturating counters (R173) -/

@[simp] theorem satAdd_toNat (c : SatCount) (n : Nat) : (satAdd c n).toNat = min 65535 (c.toNat + n) := by
  rw [satAdd, BitVec.toNat_ofNat]
  exact Nat.mod_eq_of_lt (by omega)

@[simp] theorem satInc_toNat (c : SatCount) : (satInc c).toNat = min 65535 (c.toNat + 1) :=
  satAdd_toNat c 1

/-! ### The event ring (R176, R177) -/

section
variable {kind : EventKind} {subject value : Nat} {s : State}

theorem recordEvent_of_frozen (h : s.status.frozen = true) :
    recordEvent kind subject value s = { s with status.missed := satInc s.status.missed } := by
  rw [recordEvent, if_pos h]

theorem recordEvent_of_room (h : s.status.frozen = false) (hroom : s.status.ring.length < Config.ringEntries) :
    recordEvent kind subject value s =
      { s with status.ring := s.status.ring ++ [⟨kind, subject, value, s.timeBase⟩] } := by
  rw [recordEvent, if_neg (Bool.eq_false_iff.mp h), if_pos hroom]

theorem recordEvent_of_no_room (h : s.status.frozen = false) (hfull : Config.ringEntries ≤ s.status.ring.length) :
    recordEvent kind subject value s =
      { s with status.ring := s.status.ring.tail ++ [⟨kind, subject, value, s.timeBase⟩] } := by
  rw [recordEvent, if_neg (Bool.eq_false_iff.mp h), if_neg hfull.not_gt, List.drop_one]

end

/-- Settles O28: the freeze flag and the room in the ring choose one of three equations for `recordEvent`, and the
events-missed count is a saturating counter. -/
theorem eventIsStoredOrMissed : Obligations.EventIsStoredOrMissed := by
  refine fun kind subject value s => ⟨?room, ?full, ?frozen, satInc_toNat s.status.missed⟩
  case room => exact recordEvent_of_room
  case full => exact fun hthawed hlength => recordEvent_of_no_room hthawed hlength.ge
  case frozen => exact recordEvent_of_frozen

end Sys2Proof.Machine

namespace Sys2Proof.Machine

/-! ## What a command of a pair can do

A command of a line unit is a chain of moves of that one line unit. `LineMove` lists the moves, each with what holds when it
is made; `PairStep` says what such a command may change of the rest of the station. The laws of the line units are then
shown move by move. -/

/-! ### The moves of a line unit -/

/-- One move of a line unit at a station with the group monitor `g`, with what holds when the model makes it. -/
inductive LineMove (g : GroupMonitor) : LineUnit → LineUnit → Prop where
  | expect (u : LineUnit) (n : Option (BitVec 24)) : LineMove g u { u with rxExpected := n }
  | marked (u : LineUnit) (n : Nat) : inService u = true → LineMove g u (goodMarks n u)
  | spoiled (u : LineUnit) : inService u = true → LineMove g u { u with svc := { u.svc with bad := true } }
  | unlit (u : LineUnit) : u.state = .detect → LineMove g u { u with litCount := 0, unlitCount := 0 }
  | lit (u : LineUnit) : LineMove g u (lightPeriod u)
  | received (u : LineUnit) (q : Seq) : inService u = true → LineMove g u { u with lastReceived := some q }
  | badTest (u : LineUnit) (n : Nat) : counting u = true → u.qualify.bad + n < Config.failTests →
      LineMove g u { u with qualify := { u.qualify with bad := u.qualify.bad + n } }
  | goodTest (u : LineUnit) : counting u = true → u.qualify.good + 1 < Config.passTests →
      LineMove g u { u with qualify := { u.qualify with good := u.qualify.good + 1 } }
  | passed (u : LineUnit) : counting u = true → Config.passTests ≤ u.qualify.good + 1 →
      LineMove g u (ownPass { u with qualify := { u.qualify with good := u.qualify.good + 1 } })
  | farPassed (u : LineUnit) : u.state = .qualify →
      LineMove g u { u with qualify := { u.qualify with farQualified := true } }
  | served (u : LineUnit) (s : State) (margin : BitVec 6) : s.group = g → u.state = .qualify →
      LineMove g u (enterServiceLine margin s u)
  | failed (u : LineUnit) (s : State) (parting : Option Nat) (far : Option FarParams) : s.group = g →
      u.state = .detect ∨ u.state = .train ∨ u.state = .qualify →
      LineMove g u (failLine parting s { u with farParams := far })
  | ranged (u : LineUnit) (s : State) (far : FarParams) : s.group = g → u.state = .train → u.farParams = none →
      max (config s).minRate far.minRate ≤ min (config s).maxRate far.maxRate →
      LineMove g u
        (keepRange (max (config s).minRate far.minRate) (min (config s).maxRate far.maxRate) far.ceiling
          { u with farParams := some far })
  | evidenced (u : LineUnit) (s : State) : s.group = g → u.state = .train →
      LineMove g u (takeEvidence (config s).role u)
  | paramsEnded (u : LineUnit) (s : State) : s.group = g → u.state = .train →
      LineMove g u (endParams (config s).role u)
  | probed (u : LineUnit) (s : State) (f : Frame) : s.group = g → u.state = .train →
      LineMove g u (trainProbe (config s).role f u)
  | closed (u : LineUnit) (s : State) (f : Frame) : s.group = g → u.state = .train →
      LineMove g u (trainClosing (config s).role f u)
  | acked (u : LineUnit) (s : State) : s.group = g → u.state = .train → LineMove g u (trainAcked (config s).role u)
  | echoAskCame (u : LineUnit) (s : State) (now : Stamp) : s.group = g → u.state = .train →
      LineMove g u (trainEchoAsk (config s).role now u)
  | echoCame (u : LineUnit) (now : Stamp) (turnaround : Nat) : u.state = .train →
      LineMove g u (trainEcho now turnaround u)
  | searched (u : LineUnit) (clean : Bool) (sr sr' : Search) : u.state = .train → u.train.search = some sr →
      searchStep u.train.lo u.train.hi clean sr = .next sr' →
      LineMove g u
        { u with train := { u.train with search := some sr', probeNext := some 0, deadline := .stopped } }
  | found (u : LineUnit) (clean : Bool) (sr : Search) (rate : Nat) : u.state = .train → u.train.phase = .sending →
      u.train.search = some sr → searchStep u.train.lo u.train.hi clean sr = .done rate → LineMove g u (endSearch rate u)
  | windowClosed (u : LineUnit) : u.state = .train → LineMove g u (closeWindow u)
  | closingRepeated (u : LineUnit) : u.state = .train → LineMove g u (repeatClosing u)
  | targeted (u : LineUnit) (s : State) (f : Frame) : s.group = g → u.state = .service →
      LineMove g u (recordTarget (askedTarget (config s).minRate f u) u)
  | switched (u : LineUnit) (f : Frame) : inService u = true →
      LineMove g u (endRequest { u with recvRate := min u.trainedRecv (rateField (bodyWord f.body 0)) })
  | windingDown (u : LineUnit) (reason : WindDownReason) : u.state = .service →
      LineMove g u (windDownLine reason u)
  | farLeft (u : LineUnit) : u.state = .windDown → LineMove g u (farLeaves u)
  | exited (u : LineUnit) (s : State) (reason : ExitReason) : s.group = g → inService u = true →
      LineMove g u (exitLine reason s u)
  | deferred (u : LineUnit) (reason : ExitReason) : LineMove g u (deferExit reason u)
  | detected (u : LineUnit) (s : State) : s.group = g → holdOffDue u = true → LineMove g u (enterDetectLine s u)
  | detectPeriod (u : LineUnit) (s : State) : s.group = g → u.state = .detect → LineMove g u (detectPeriod s u)
  | periodBegun (u : LineUnit) : inService u = true → LineMove g u (nextPeriod u)
  | filtered (u : LineUnit) (dark : Bool) : inService u = true → LineMove g u (losFilter dark u)
  | losChanged (u : LineUnit) (hold : Nat) : LineMove g u (losHoldAtChange hold u)
  | windowed (u : LineUnit) (threshold : Nat) (errored : Bool) : u.state = .service →
      LineMove g u { u with svc := (windowAfter threshold errored u.svc).1 }
  | checked (u : LineUnit) (interval : Nat) (m : BitVec 6) : u.state = .service →
      (checkedLine interval m u).svc.downStreak < 3 → (checkedLine interval m u).svc.upStreak < 3 →
      LineMove g u (checkedLine interval m u)
  | asked (u : LineUnit) (interval : Nat) (m : BitVec 6) (target : Nat) : u.state = .service →
      LineMove g u (requestRate target (checkedLine interval m u))
  | checkedDown (u : LineUnit) (interval : Nat) (m : BitVec 6) (reason : WindDownReason) : u.state = .service →
      LineMove g u (windDownLine reason (checkedLine interval m u))
  | clocked (u : LineUnit) : inService u = true → LineMove g u { u with k := 0, serviceClock := .stopped }
  | txDone (u : LineUnit) : LineMove g u { u with tx := none }
  | fragDone (u : LineUnit) (f : Fragment) (rest : List Fragment) : inService u = true → u.queue = f :: rest →
      LineMove g u (placeOwnLeave { u with queue := rest })
  | switchDone (u : LineUnit) (rate : Nat) : inService u = true → switchOnPair u = some rate →
      LineMove g u (rateSwitchLine rate { u with tx := none })
  | askDone (u : LineUnit) : LineMove g u (rateAskEnds u)
  | echoAskDone (u : LineUnit) (now : Stamp) : u.state = .train → echoAskOnPair u = true →
      LineMove g u (echoAskEnds now { u with tx := none })
  | echoDone (u : LineUnit) : u.state = .train → LineMove g u (echoEnds u)
  | closingDone (u : LineUnit) : u.state = .train → LineMove g u (closingProbeEnds u)
  | leaveDone (u : LineUnit) (w : WindDownRecord) : u.svc.windDown = some w →
      LineMove g u { u with svc := { u.svc with windDown := some { w with leaveEnded := true } } }
  | chosen (u : LineUnit) (s : State) : s.group = g → u.tx = none → LineMove g u (chooseLine s u)
  | conflicted (u : LineUnit) : inService u = false → LineMove g u (conflictLine u)

/-- A chain of moves of a line unit. -/
abbrev LineMoves (g : GroupMonitor) : LineUnit → LineUnit → Prop := Relation.ReflTransGen (LineMove g)

/-- What every move keeps, a chain of moves keeps. -/
theorem LineMoves.keeps {g : GroupMonitor} {P : LineUnit → Prop} (hP : ∀ u v, LineMove g u v → P u → P v)
    {u v : LineUnit} (h : LineMoves g u v) (hu : P u) : P v := by
  induction h with
  | refl => exact hu
  | tail _ hmove ih => exact hP _ _ hmove ih

/-! ### What a command of a pair leaves as it was -/

/-- What a command of pair `p`, a FRAG's arrival at the hold queue apart, can do to the station: the line unit of `p` makes
moves, the status unit counts and stores events, and an ACTIVE station may place its evidence skip. -/
structure PairStep (p : Pair) (s t : State) : Prop where
  group : t.group = s.group
  sequencer : t.sequencer = s.sequencer
  holdQueue : t.holdQueue = s.holdQueue
  release : t.release = s.release
  timeBase : t.timeBase = s.timeBase
  pending : t.pending = s.pending
  snap : t.status.snap = s.status.snap ∧ t.status.snapTag = s.status.snapTag ∧ t.status.snapStamp = s.status.snapStamp
  ring : s.status.ring.length ≤ Config.ringEntries → t.status.ring.length ≤ Config.ringEntries
  port : t.port = s.port ∨ isActive s = true ∧ t.port = (placeSkip s).port
  others : ∀ r, r ≠ p → line t r = line s r
  moves : LineMoves s.group (line s p) (line t p)

/-- SKIP(E) placed twice is SKIP(E) placed once. -/
theorem placeSkip_port_congr {s t : State} (hg : t.group = s.group) (hr : t.release = s.release)
    (hp : t.port = s.port ∨ t.port = (placeSkip s).port) : (placeSkip t).port = (placeSkip s).port := by
  unfold placeSkip at *
  rw [hg, hr]
  split at hp <;> obtain hp | hp := hp <;> simp_all [placeBlock, setSlot]

theorem recordEvent_snap (kind : EventKind) (a b : Nat) (s : State) :
    (recordEvent kind a b s).status.snap = s.status.snap ∧
      (recordEvent kind a b s).status.snapTag = s.status.snapTag ∧
        (recordEvent kind a b s).status.snapStamp = s.status.snapStamp := by
  unfold recordEvent; split <;> exact ⟨rfl, rfl, rfl⟩

namespace PairStep

variable {p : Pair} {s t v : State}

theorem refl (p : Pair) (s : State) : PairStep p s s where
  group := rfl
  sequencer := rfl
  holdQueue := rfl
  release := rfl
  timeBase := rfl
  pending := rfl
  snap := ⟨rfl, rfl, rfl⟩
  ring := id
  port := .inl rfl
  others _ _ := rfl
  moves := .refl

theorem trans (h : PairStep p s t) (h' : PairStep p t v) : PairStep p s v where
  group := h'.group.trans h.group
  sequencer := h'.sequencer.trans h.sequencer
  holdQueue := h'.holdQueue.trans h.holdQueue
  release := h'.release.trans h.release
  timeBase := h'.timeBase.trans h.timeBase
  pending := h'.pending.trans h.pending
  snap := by
    obtain ⟨h1, h2, h3⟩ := h.snap
    obtain ⟨h1', h2', h3'⟩ := h'.snap
    exact ⟨h1'.trans h1, h2'.trans h2, h3'.trans h3⟩
  ring := h'.ring ∘ h.ring
  port := by
    have active : isActive t = isActive s := by simp [isActive, h.group]
    obtain hp' | ⟨ha, hp'⟩ := h'.port
    · rw [hp']
      exact h.port
    · refine .inr ⟨active ▸ ha, hp'.trans (placeSkip_port_congr h.group h.release ?_)⟩
      exact h.port.imp_right And.right
  others r hr := (h'.others r hr).trans (h.others r hr)
  moves := h.moves.trans (h.group ▸ h'.moves)

theorem setLine {u : LineUnit} (h : LineMove s.group (line s p) u) : PairStep p s (Machine.setLine p u s) where
  group := rfl
  sequencer := rfl
  holdQueue := rfl
  release := rfl
  timeBase := rfl
  pending := rfl
  snap := ⟨rfl, rfl, rfl⟩
  ring := id
  port := .inl rfl
  others r hr := line_setLine_other u s hr
  moves := by
    rw [line_setLine_same]
    exact .single h

theorem modLine {f : LineUnit → LineUnit} (h : LineMove s.group (line s p) (f (line s p))) :
    PairStep p s (Machine.modLine p f s) := setLine h

theorem countPair (p r : Pair) (f : PairCounters → PairCounters) (s : State) : PairStep p s (Machine.countPair r f s) :=
  { refl p s with }

theorem countStation (p : Pair) (f : StationCounters → StationCounters) (s : State) :
    PairStep p s (Machine.countStation f s) := { refl p s with }

theorem recordEvent (p : Pair) (kind : EventKind) (a b : Nat) (s : State) :
    PairStep p s (Machine.recordEvent kind a b s) where
  group := recordEvent_group kind a b s
  sequencer := recordEvent_sequencer kind a b s
  holdQueue := recordEvent_holdQueue kind a b s
  release := recordEvent_release kind a b s
  timeBase := recordEvent_timeBase kind a b s
  pending := recordEvent_pending kind a b s
  snap := recordEvent_snap kind a b s
  ring := recordEvent_ring kind a b s
  port := .inl (recordEvent_port kind a b s)
  others r _ := line_recordEvent kind a b s r
  moves := by rw [line_recordEvent]

theorem evidenceSkip (p : Pair) (s : State) : PairStep p s (Machine.evidenceSkip s) where
  group := evidenceSkip_group s
  sequencer := evidenceSkip_sequencer s
  holdQueue := evidenceSkip_holdQueue s
  release := evidenceSkip_release s
  timeBase := evidenceSkip_timeBase s
  pending := evidenceSkip_pending s
  snap := by simp
  ring := by simp
  port := by
    obtain h | ⟨ha, _, _, _, h⟩ := evidenceSkip_cases s
    · exact .inl (by rw [h])
    · exact .inr ⟨ha, by rw [h]⟩
  others r _ := line_evidenceSkip s r
  moves := by rw [line_evidenceSkip]

/-- A condition on the way: either branch is a step. -/
theorem ite {c : Prop} [Decidable c] {a b : State} (ha : c → PairStep p s a) (hb : ¬c → PairStep p s b) :
    PairStep p s (if c then a else b) := by
  split
  · exact ha ‹_›
  · exact hb ‹_›

/-! ### The shared operations of the line units -/

theorem exitPair {reason : ExitReason} (h : inService (line s p) = true) :
    PairStep p s (Machine.exitPair p reason s) := by
  unfold Machine.exitPair
  have exit := (setLine (.exited (line s p) s reason rfl h)).trans
    (countPair p p (fun c => { c with discarded := c.discarded + BitVec.ofNat 32 (line s p).queue.length }) _)
  refine .trans (.trans ?_ (recordEvent p _ _ _ _)) (evidenceSkip p _)
  exact .ite (fun _ => exit.trans (countPair p p _ _)) (fun _ => exit)

theorem failTraining {cause : TrainCause} (h : (line s p).state = .detect ∨ (line s p).state = .train) :
    PairStep p s (Machine.failTraining p cause s) := by
  unfold Machine.failTraining
  have failed := LineMove.failed (line s p) s (trainParting cause) (line s p).farParams rfl (by tauto)
  exact ((setLine failed).trans (countPair p p _ _)).trans (recordEvent p _ _ _ _)

theorem failQualify {cause : QualifyCause} (h : (line s p).state = .qualify) :
    PairStep p s (Machine.failQualify p cause s) := by
  unfold Machine.failQualify
  have failed := LineMove.failed (line s p) s (if cause = .farLeave then none else some (line s p).trainedSend)
    (line s p).farParams rfl (by tauto)
  exact ((setLine failed).trans (countPair p p _ _)).trans (recordEvent p _ _ _ _)

theorem enterService {margin : BitVec 6} (h : (line s p).state = .qualify) :
    PairStep p s (Machine.enterService p margin s) := by
  unfold Machine.enterService
  have served := setLine (p := p) (.served (line s p) s margin rfl h)
  exact ((served.trans (countPair p p _ _)).trans (recordEvent p _ _ _ _)).trans (evidenceSkip p _)

theorem startWindDown {reason : WindDownReason} (h : (line s p).state = .service) :
    PairStep p s (Machine.startWindDown p reason s) :=
  (modLine (.windingDown (line s p) reason h)).trans (countPair p p _ _)

theorem inService_of_windDownDone {u : LineUnit} (h : windDownDone u = true) : inService u = true := by
  unfold windDownDone at h
  split at h
  · cases h
  · simp_all [inService]

theorem tryWindDownEnd (p : Pair) (s : State) : PairStep p s (Machine.tryWindDownEnd p s) := by
  obtain h | ⟨hdone, h⟩ := tryWindDownEnd_cases p s
  · rw [h]
    exact refl p s
  · rw [h]
    exact exitPair (inService_of_windDownDone hdone)

theorem burstResult {clean : Bool} (h : (line s p).state = .train) (hphase : (line s p).train.phase = .sending) :
    PairStep p s (Machine.burstResult p clean s) := by
  unfold Machine.burstResult
  dsimp only
  split
  · exact refl p s
  next sr hsr =>
    split
    · exact setLine (.searched _ clean sr _ h hsr ‹_›)
    · exact setLine (.found _ clean sr _ h hphase hsr ‹_›)
    · exact failTraining (.inr h)

theorem chooseNext (p : Pair) (s : State) : PairStep p s (Machine.chooseNext p s) := by
  unfold Machine.chooseNext
  refine .ite (fun _ => refl p s) fun hnone => ?_
  have chosen := setLine (p := p) (.chosen (line s p) s rfl (by simpa using hnone))
  exact .ite (fun _ => chosen.trans (countPair p p _ _)) (fun _ => chosen)

end PairStep

end Sys2Proof.Machine

namespace Sys2Proof.Machine

namespace PairStep

variable {p : Pair} {s t v : State}

/-! ### The end of a frame (R75, R96, R98, R99, R113, R115, R121 to R123) -/

theorem fragEnds (h : inService (line s p) = true) : PairStep p s (Machine.fragEnds p s) := by
  unfold Machine.fragEnds
  split
  · exact refl p s
  next f rest hqueue =>
    exact ((modLine (.fragDone (line s p) f rest h hqueue)).trans (countPair p p _ _)).trans (tryWindDownEnd p _)

theorem ownLeaveEnds (h : (line s p).state = .windDown) : PairStep p s (Machine.ownLeaveEnds p s) := by
  unfold Machine.ownLeaveEnds
  split
  · exact refl p s
  next w hw =>
    have ended := modLine (p := p) (s := s)
      (f := fun u => { u with svc := { u.svc with windDown := some { w with leaveEnded := true } } })
      (.leaveDone (line s p) w hw)
    dsimp only
    split
    · exact ended.trans (exitPair (by simp [inService, h]))
    · exact ended.trans (tryWindDownEnd p _)

/-- R115: the counts and the event that follow a change of the send rate. -/
theorem rateSwitchCounted (p : Pair) (rate old : Nat) (s : State) :
    PairStep p s
      (Machine.recordEvent .reRateDone (pairIndex p) rate
        (if rate < old then Machine.countPair p (fun c => { c with downRates := satInc c.downRates }) s
        else if old < rate then Machine.countPair p (fun c => { c with upRates := satInc c.upRates }) s
        else s)) := by
  refine .trans ?_ (recordEvent p _ _ _ _)
  exact .ite (fun _ => countPair p p _ s) fun _ => .ite (fun _ => countPair p p _ s) fun _ => refl p s

/-- A frame leaves the pair and its end changes the line unit in the same move. -/
theorem modLine_modLine {f k : LineUnit → LineUnit} (h : LineMove s.group (line s p) (f (k (line s p)))) :
    PairStep p s (Machine.modLine p f (Machine.modLine p k s)) := by
  have one : Machine.modLine p f (Machine.modLine p k s) = Machine.setLine p (f (k (line s p))) s := by
    simp [Machine.modLine]
  rw [one]
  exact setLine h

theorem frameEnds (p : Pair) (s : State) : PairStep p s (Machine.frameEnds p s) := by
  unfold Machine.frameEnds
  split
  · exact refl p s
  next x htx =>
    have off := modLine (p := p) (s := s) (f := fun u => { u with tx := none }) (.txDone (line s p))
    obtain ⟨content, count, rate⟩ := x
    unfold contentEnds
    rw [line_modLine_same]
    cases content with
    | frag f => exact .ite (fun h => off.trans (fragEnds (by simpa [inService] using h))) fun _ => off
    | rateSwitch r =>
      refine .ite (fun h => ?_) fun _ => off
      have done : LineMove s.group (line s p) (rateSwitchLine r { line s p with tx := none }) :=
        .switchDone (line s p) r (by simpa [inService] using h) (by simp [switchOnPair, htx])
      exact (modLine_modLine (f := rateSwitchLine r) (k := fun u => { u with tx := none }) done).trans
        (rateSwitchCounted p r _ _)
    | rateAsk r => exact off.trans (modLine (.askDone _))
    | echoAsk =>
      refine .ite (fun h => ?_) fun _ => off
      exact modLine_modLine (f := echoAskEnds s.timeBase) (k := fun u => { u with tx := none })
        (.echoAskDone (line s p) s.timeBase h (by simp [echoAskOnPair, htx]))
    | echo x => exact .ite (fun h => off.trans (modLine (.echoDone _ (by simpa using h)))) fun _ => off
    | closingProbe r => exact .ite (fun h => off.trans (modLine (.closingDone _ (by simpa using h)))) fun _ => off
    | leave => exact .ite (fun h => off.trans (ownLeaveEnds (by simpa using h))) fun _ => off
    | _ => exact off

theorem boundary (p : Pair) (s : State) : PairStep p s (Machine.boundary p s) :=
  (frameEnds p s).trans (chooseNext p _)

theorem endOf (is : TxContent → Bool) (p : Pair) (s : State) : PairStep p s (Machine.endOf is p s) := by
  obtain ⟨h, _⟩ | ⟨_, _, _, h⟩ := endOf_cases is p s
  · rw [h]
    exact refl p s
  · rw [h]
    exact frameEnds p s

/-! ### A received frame (R74, R101, R107, R128) -/

theorem addBad {n : Nat} (h : counting (line s p) = true) : PairStep p s (Machine.addBad p n s) := by
  obtain hb | hb := Nat.lt_or_ge ((line s p).qualify.bad + n) Config.failTests
  · rw [addBad_below p n s hb]
    exact setLine (.badTest (line s p) n h hb)
  · rw [addBad_reached p n s hb]
    have hq : (line s p).state = .qualify := by
      cases hs : (line s p).state <;> simp_all [counting]
    have fails := LineMove.failed (line s p) s (some (line s p).trainedSend) (line s p).farParams rfl (by tauto)
    unfold Machine.failQualify
    rw [line_setLine_same]
    simp only [setLine_setLine]
    exact ((setLine fails).trans (countPair p p _ _)).trans (recordEvent p _ _ _ _)

theorem checkCount (p : Pair) (f : Frame) (s : State) : PairStep p s (Machine.checkCount p f s) := by
  have expected := modLine (p := p) (s := s) (f := fun u => { u with rxExpected := some (f.count + 1) })
    (.expect (line s p) _)
  unfold Machine.checkCount
  refine .ite (fun h => ?_) fun _ => .ite (fun h => ?_) fun _ => expected
  · exact (expected.trans (modLine (.marked _ _ h))).trans (countPair p p _ _)
  · exact expected.trans (addBad h)

theorem badFrame (p : Pair) (s : State) : PairStep p s (Machine.badFrame p s) := by
  unfold Machine.badFrame
  exact .ite (fun h => (modLine (.spoiled _ h)).trans (countPair p p _ _)) fun _ => refl p s

theorem receiveCounted {act : State → State} (f : Frame) (hact : ∀ t, PairStep p t (act t)) (s : State) :
    PairStep p s (Machine.receiveCounted p f act s) := by
  obtain ⟨_, h⟩ | ⟨_, _, h⟩ | ⟨_, _, h⟩ := receiveCounted_cases p f act s <;> rw [h]
  · exact refl p s
  · exact checkCount p f s
  · exact (checkCount p f s).trans (hact _)

theorem receive {act : State → State} (k : FrameKind) (f : Frame) (hact : ∀ t, PairStep p t (act t)) (s : State) :
    PairStep p s (Machine.receive k p f act s) :=
  receiveCounted f (fun t => .ite (fun _ => hact t) fun _ => badFrame p t) s

theorem fragReceived {f : Frame} (h : inService (line s p) = true) : PairStep p s (Machine.fragReceived p f s) :=
  (modLine (.received (line s p) (frameSeq f) h)).trans (countPair p p _ _)

theorem trainParams {f : Frame} (h : (line s p).state = .train) : PairStep p s (Machine.trainParams p f s) := by
  have first : PairStep p s (if (line s p).farParams.isNone then Machine.firstParams p f s else s) := by
    refine .ite (fun hnone => ?_) fun _ => refl p s
    have failed (cause : TrainCause) : PairStep p s (Machine.failTraining p cause
        (Machine.modLine p (fun u => { u with farParams := some (paramsOf f) }) s)) := by
      unfold Machine.failTraining
      rw [line_modLine_same]
      simp only [Machine.modLine, setLine_setLine]
      have fails := LineMove.failed (line s p) s (trainParting cause) (some (paramsOf f)) rfl (by tauto)
      exact ((setLine fails).trans (countPair p p _ _)).trans (recordEvent p _ _ _ _)
    unfold Machine.firstParams
    refine .ite (fun _ => failed _) fun _ => .ite (fun _ => failed _) fun hrange => ?_
    exact modLine_modLine (k := fun u => { u with farParams := some (paramsOf f) })
      (.ranged (line s p) s (paramsOf f) rfl h (by simpa using hnone) (Nat.le_of_not_lt hrange))
  unfold Machine.trainParams
  dsimp only
  generalize (if (line s p).farParams.isNone then Machine.firstParams p f s else s) = t at first ⊢
  have hc : config s = config t := by simp only [config, first.group]
  refine .ite (fun ht => first.trans (modLine ?_)) fun _ => first
  rw [hc]
  split
  · exact .evidenced _ t rfl ht
  · exact .paramsEnded _ t rfl ht

theorem addGood {margin : BitVec 6} (h : counting (line s p) = true) : PairStep p s (Machine.addGood p margin s) := by
  unfold Machine.addGood
  dsimp only
  rw [line_modLine_same]
  have hq : (line s p).state = .qualify := by
    cases hs : (line s p).state <;> simp_all [counting]
  refine .ite (fun hpass => ?_) fun hpass => modLine (.goodTest _ h (Nat.lt_of_not_le hpass))
  have passed := modLine_modLine (f := ownPass)
    (k := fun u => { u with qualify := { u.qualify with good := u.qualify.good + 1 } }) (.passed (line s p) h hpass)
  exact .ite (fun _ => passed.trans (enterService (by simp [ownPass, hq]))) fun _ => passed

theorem actLeave (p : Pair) (s : State) : PairStep p s (Machine.actLeave p s) := by
  have counted : PairStep p s (countLeave p s) := countPair p p _ s
  unfold Machine.actLeave
  split
  next h => exact failTraining (.inr h)
  next h => exact failQualify h
  next h => exact counted.trans (exitPair (by simp [countLeave, inService, h]))
  next h => exact (counted.trans (modLine (.farLeft _ (by simpa [countLeave] using h)))).trans (tryWindDownEnd p _)
  all_goals exact refl p s

/-! ### The timers in service (R107 to R113) -/

theorem judgeLos {dark : Bool} (h : inService (line s p) = true) : PairStep p s (Machine.judgeLos p dark s) := by
  have filtered := setLine (p := p) (.filtered (line s p) dark h)
  unfold Machine.judgeLos
  refine .ite (fun _ => filtered) fun _ => ?_
  have changed : PairStep p s
      (Machine.setLine p (losHoldAtChange (config s).losHold (losFilter dark (line s p))) s) := by
    have := filtered.trans (modLine (f := losHoldAtChange (config s).losHold) (.losChanged _ _))
    simpa [Machine.modLine] using this
  exact changed.trans (recordEvent p _ _ _ _)

theorem judgeWindow (p : Pair) (errored : Bool) (s : State) : PairStep p s (Machine.judgeWindow p errored s) := by
  unfold Machine.judgeWindow
  refine .ite (fun h => ?_) fun _ => refl p s
  have windowed := setLine (p := p) (.windowed (line s p) (config s).errorThreshold errored h)
  exact .ite (fun _ => windowed.trans (startWindDown (by simpa using h))) fun _ => windowed

theorem servicePeriod (h : inService (line s p) = true) : PairStep p s (Machine.servicePeriod p s) := by
  have begun := modLine (p := p) (.periodBegun (line s p) h)
  unfold Machine.servicePeriod
  refine .trans (.trans ?_ (judgeLos ?_)) (judgeWindow p _ _)
  · exact .ite (fun _ => begun.trans (countPair p p _ _)) fun _ => begun
  · split <;> simpa [nextPeriod, inService] using h

theorem reRateCheck {interval : Nat} {m : BitVec 6} (h : (line s p).state = .service) :
    PairStep p s (actOnStreaks p (Machine.modLine p (checkedLine interval m) s)) := by
  unfold actOnStreaks
  dsimp only
  rw [line_modLine_same]
  have asks (target : Nat) : PairStep p s
      (Machine.modLine p (requestRate target) (Machine.modLine p (checkedLine interval m) s)) :=
    modLine_modLine (.asked (line s p) interval m target h)
  refine .ite (fun _ => .ite (fun _ => asks _) fun _ => ?_) fun hdown => .ite (fun _ => asks _) fun hup => ?_
  · exact (modLine_modLine (f := windDownLine .margin) (.checkedDown (line s p) interval m .margin h)).trans
      (countPair p p _ _)
  · exact modLine (.checked (line s p) interval m h (Nat.lt_of_not_le hdown) (Nat.lt_of_not_le hup))

theorem whenLine {c : LineUnit → Bool} {f : State → State} (h : c (line s p) = true → PairStep p s (f s)) :
    PairStep p s (Machine.whenLine p c f s) := by
  obtain ⟨hc, h'⟩ | ⟨_, h'⟩ := whenLine_cases p c f s <;> rw [h']
  · exact h hc
  · exact refl p s

/-- Where a line unit's state is tested and then a timer. -/
theorem state_of_beq_and {u : LineUnit} {x : LineState} {b : Bool} (h : (u.state == x && b) = true) : u.state = x := by
  simp_all

end PairStep

/-- A command of pair `p` other than FRAG is a step of that pair. -/
theorem exec_pairStep {c : Instr} {p : Pair} {s t : State} (hp : pairOf c = some p) (hc : ∀ f, c ≠ .frag p f)
    (h : exec c s = .next t) : PairStep p s t := by
  cases c <;> simp only [pairOf, reduceCtorEq, Option.some.injEq] at hp <;> subst hp <;>
    obtain rfl := Host.Outcome.next.inj h
  case frag f => exact absurd rfl (hc f)
  case holdOffExpiry => exact .whenLine fun h => .modLine (.detected _ s rfl h)
  case monitorPeriodEnd p =>
    exact .whenLine fun _ => .ite (fun h => .modLine (.detectPeriod _ s rfl h)) fun _ =>
      .ite (fun h => .servicePeriod h) fun _ => .refl p s
  case detectTimeout => exact .whenLine fun h => .failTraining (.inl (PairStep.state_of_beq_and h))
  case trainingTimeout => exact .whenLine fun h => .failTraining (.inr (PairStep.state_of_beq_and h))
  case verdictDeadline =>
    refine .whenLine fun h => ?_
    simp only [verdictDue, Bool.and_eq_true, beq_iff_eq] at h
    exact .burstResult h.1.1 h.1.2
  case burstWindowClose => exact .whenLine fun h => .modLine (.windowClosed _ (PairStep.state_of_beq_and h))
  case closingProbeRepeat =>
    refine .whenLine fun h => .modLine (.closingRepeated _ ?_)
    simp only [closingDue, Bool.and_eq_true, beq_iff_eq] at h
    exact h.1.1
  case echoTimeout => exact .whenLine fun h => .failTraining (.inr (PairStep.state_of_beq_and h))
  case qualificationTimeout => exact .whenLine fun h => .failQualify (PairStep.state_of_beq_and h)
  case losHoldExpiry =>
    exact .whenLine fun h => .exitPair (by simp [inService, PairStep.state_of_beq_and h])
  case reRateCheck => exact .whenLine fun h => .reRateCheck (PairStep.state_of_beq_and h)
  case reRateTimeout =>
    refine .whenLine fun h => .startWindDown ?_
    simp only [Bool.and_eq_true, beq_iff_eq] at h
    exact h.1.1
  case windDownLimit p =>
    refine .whenLine fun h => .ite (fun _ => .modLine (.deferred _ _)) fun _ => .exitPair ?_
    unfold windDownDue at h
    split at h
    · simp [inService, PairStep.state_of_beq_and h]
    · cases h
  case serviceClock60s =>
    refine .whenLine fun h => .modLine (.clocked _ ?_)
    simp only [Bool.and_eq_true] at h
    exact h.1
  case frameBoundary p => exact .boundary p s
  case fragComplete p => exact .endOf isFrag p s
  case rateSwitchSent p => exact .endOf isRateSwitch p s
  case rateAskSent p => exact .endOf isRateAsk p s
  case echoAskSent p => exact .endOf isEchoAsk p s
  case echoSent p => exact .endOf isEcho p s
  case closingProbeSent p => exact .endOf isClosingProbe p s
  case ownLeaveSent p => exact .endOf isLeave p s
  case frameBadCrc p => exact .ite (fun h => .modLine (.unlit _ h)) fun _ => .badFrame p s
  case idle p f => exact .receive .idle f (fun t => .refl p t) s
  case wake p f => exact .receive .wake f (fun t => .modLine (.lit _)) s
  case params p f =>
    exact .receive .params f (fun t => .ite (fun h => .trainParams h) fun _ => .modLine (.lit _)) s
  case probe p f =>
    exact .receive .probe f (fun t => .ite (fun h => .modLine (.probed _ t f rfl h)) fun _ => .refl p t) s
  case closingProbe p f =>
    exact .receive .probe f (fun t => .ite (fun h => .modLine (.closed _ t f rfl h)) fun _ => .refl p t) s
  case verdict p f =>
    refine .receive .verdict f (fun t => .ite (fun h => ?_) fun _ => .refl p t) s
    have evidenced := PairStep.modLine (p := p) (.evidenced (line t p) t rfl h)
    refine .ite (fun hb => evidenced.trans (.burstResult ?_ ?_)) fun _ => evidenced
    · rw [line_modLine_same]
      unfold takeEvidence endParams
      split
      · cases (config t).role <;> simpa [modTrain] using h
      · simpa [modTrain] using h
    · simp only [awaitsBurst, Bool.and_eq_true, beq_iff_eq] at hb
      exact hb.1.1
  case closingVerdict p f =>
    exact .receive .verdict f (fun t => .ite (fun h => .modLine (.acked _ t rfl h)) fun _ => .refl p t) s
  case echoAsk p f =>
    exact .receive .echoAsk f
      (fun t => .ite (fun h => .modLine (.echoAskCame _ t t.timeBase rfl h)) fun _ => .refl p t) s
  case echo p f =>
    exact .receive .echo f
      (fun t => .ite (fun h => .modLine (.echoCame _ t.timeBase (bodyWord f.body 0) h)) fun _ => .refl p t) s
  case test p f m =>
    exact .receive .test f
      (fun t => .ite (fun h => .ite (fun _ => .addGood h) fun _ => .addBad h) fun _ => .refl p t) s
  case qualified p f m =>
    refine .receive .qualified f (fun t => .ite (fun h => ?_) fun _ => .refl p t) s
    have heard := PairStep.modLine (p := p) (s := t)
      (f := fun u => { u with qualify := { u.qualify with farQualified := true } }) (.farPassed _ h)
    exact .ite (fun _ => heard.trans (.enterService (by simpa using h))) fun _ => heard
  case rateAsk p f =>
    exact .receive .rateAsk f (fun t => .ite (fun h => .modLine (.targeted _ t f rfl h)) fun _ => .refl p t) s
  case rateSwitch p f =>
    exact .receive .rateSwitch f (fun t => .ite (fun h => .modLine (.switched _ f h)) fun _ => .refl p t) s
  case windDown p f =>
    exact .receive .windDown f (fun t => .ite (fun h => .startWindDown h) fun _ => .refl p t) s
  case leave p f => exact .receive .leave f (fun t => .actLeave p t) s
  case unknownFrameKind p kind f => exact .receiveCounted f (fun t => .refl p t) s

end Sys2Proof.Machine

namespace Sys2Proof.Machine

/-! ### What the composite moves leave as it was -/

/-- `v` is `u` with another working record of TRAIN. -/
def TrainOnly (u v : LineUnit) : Prop := ∃ tr, v = { u with train := tr }

theorem TrainOnly.refl (u : LineUnit) : TrainOnly u u := ⟨u.train, rfl⟩

theorem TrainOnly.modTrain (f : TrainRecord → TrainRecord) (u : LineUnit) : TrainOnly u (modTrain f u) := ⟨_, rfl⟩

theorem TrainOnly.trans {u v w : LineUnit} (h : TrainOnly u v) (h' : TrainOnly v w) : TrainOnly u w := by
  obtain ⟨tr, rfl⟩ := h
  obtain ⟨tr', rfl⟩ := h'
  exact ⟨tr', rfl⟩

theorem trainOnly_endParams (role : Role) (u : LineUnit) : TrainOnly u (endParams role u) := by
  unfold endParams
  split
  · cases role <;> exact ⟨_, rfl⟩
  · exact .refl u

theorem trainOnly_takeEvidence (role : Role) (u : LineUnit) : TrainOnly u (takeEvidence role u) :=
  (TrainOnly.modTrain _ u).trans (trainOnly_endParams role _)

theorem trainOnly_closingAcked (role : Role) (u : LineUnit) : TrainOnly u (closingAcked role u) := by
  cases role <;> exact ⟨_, rfl⟩

theorem trainOnly_probeAcks (role : Role) (u : LineUnit) : TrainOnly u (probeAcks role u) := by
  unfold probeAcks
  split
  · exact trainOnly_closingAcked role u
  · exact .refl u

theorem trainOnly_closeWindow (u : LineUnit) : TrainOnly u (closeWindow u) := by
  unfold closeWindow
  split <;> exact ⟨_, rfl⟩

theorem trainOnly_judgeProbe (f : Frame) (u : LineUnit) : TrainOnly u (judgeProbe f u) := by
  unfold judgeProbe
  split
  · exact .refl u
  · dsimp only
    split
    · exact (TrainOnly.modTrain _ u).trans (trainOnly_closeWindow _)
    · exact .modTrain _ u

theorem trainOnly_trainProbe (role : Role) (f : Frame) (u : LineUnit) : TrainOnly u (trainProbe role f u) := by
  have acked := (trainOnly_takeEvidence role u).trans (trainOnly_probeAcks role _)
  unfold trainProbe
  dsimp only
  split
  · exact (acked.trans (.modTrain _ _)).trans (trainOnly_judgeProbe f _)
  · exact acked

theorem trainOnly_directionEnds (role : Role) (u : LineUnit) : TrainOnly u (directionEnds role u) := by
  unfold directionEnds
  split
  · cases role <;> exact ⟨_, rfl⟩
  · exact .refl u

theorem trainClosing_only (role : Role) (f : Frame) (u : LineUnit) :
    ∃ r, TrainOnly { u with trainedRecv := r } (trainClosing role f u) := by
  obtain ⟨tr, h⟩ := (trainOnly_takeEvidence role u).trans (trainOnly_probeAcks role _)
  unfold trainClosing
  dsimp only
  split
  · have recorded : TrainOnly { u with trainedRecv := rateField (bodyWord f.body 1) }
        (recordClosing (rateField (bodyWord f.body 1)) (probeAcks role (takeEvidence role u))) := by
      rw [h]
      exact ⟨_, rfl⟩
    exact ⟨_, recorded.trans (trainOnly_directionEnds role _)⟩
  · rw [h]
    exact ⟨u.trainedRecv, _, rfl⟩

theorem trainOnly_trainAcked (role : Role) (u : LineUnit) : TrainOnly u (trainAcked role u) := by
  unfold trainAcked
  dsimp only
  split
  · exact (trainOnly_takeEvidence role u).trans (trainOnly_closingAcked role _)
  · exact trainOnly_takeEvidence role u

theorem trainOnly_trainEchoAsk (role : Role) (now : Stamp) (u : LineUnit) :
    TrainOnly u (trainEchoAsk role now u) := by
  unfold trainEchoAsk
  dsimp only
  split
  · exact .refl u
  · split
    · exact (trainOnly_closingAcked role u).trans (.modTrain _ _)
    · exact .modTrain _ u

theorem trainOnly_closingProbeEnds (u : LineUnit) : TrainOnly u (closingProbeEnds u) := by
  unfold closingProbeEnds
  split
  · exact ⟨_, rfl⟩
  · exact .refl u

theorem tryQualify_cases (u : LineUnit) :
    tryQualify u = u ∨
      (u.state = .train ∧ u.train.measured = true ∧ u.train.echoSent = true ∧ tryQualify u = enterQualifyLine u) := by
  unfold tryQualify
  split
  next h => exact .inr ⟨h.1, h.2.1, h.2.2, rfl⟩
  · exact .inl rfl

/-- What one choice of a frame takes from a line unit: pending frames, marks of TRAIN, the next TEST index, and the mark of
the own LEAVE. -/
theorem chooseLine_only (s : State) (u : LineUnit) :
    ∃ ctl tx n tr i w, chooseLine s u =
      { u with
        ctl := ctl, tx := tx, txCount := n, train := tr, qualify := { u.qualify with testIndex := i }
        svc := { u.svc with windDown := w } } := by
  have service : ∃ ctl tx n w, chooseService u =
      { u with ctl := ctl, tx := tx, txCount := n, svc := { u.svc with windDown := w } } := by
    unfold chooseService
    split
    · exact ⟨_, _, _, _, rfl⟩
    · (repeat' split) <;> exact ⟨_, _, _, u.svc.windDown, rfl⟩
  unfold chooseLine
  split
  · exact ⟨u.ctl, u.tx, u.txCount, u.train, u.qualify.testIndex, u.svc.windDown, rfl⟩
  · exact ⟨u.ctl, u.tx, u.txCount, u.train, u.qualify.testIndex, u.svc.windDown, rfl⟩
  · exact ⟨_, _, _, u.train, u.qualify.testIndex, u.svc.windDown, rfl⟩
  · obtain ⟨tx, n, tr, h⟩ : ∃ tx n tr, chooseTrain s u = { u with tx := tx, txCount := n, train := tr } := by
      unfold chooseTrain
      (repeat' split) <;> exact ⟨_, _, _, rfl⟩
    rw [h]
    exact ⟨u.ctl, tx, n, tr, u.qualify.testIndex, u.svc.windDown, rfl⟩
  · obtain ⟨ctl, tx, n, i, h⟩ : ∃ ctl tx n i, chooseQualify u =
        { u with ctl := ctl, tx := tx, txCount := n, qualify := { u.qualify with testIndex := i } } := by
      unfold chooseQualify
      split
      · exact ⟨_, _, _, u.qualify.testIndex, rfl⟩
      · split
        · exact ⟨_, _, _, u.qualify.testIndex, rfl⟩
        · exact ⟨u.ctl, _, _, _, rfl⟩
    rw [h]
    exact ⟨ctl, tx, n, u.train, i, u.svc.windDown, rfl⟩
  · obtain ⟨ctl, tx, n, w, h⟩ := service
    rw [h]
    exact ⟨ctl, tx, n, u.train, u.qualify.testIndex, w, rfl⟩
  · obtain ⟨ctl, tx, n, w, h⟩ := service
    rw [h]
    unfold placeOwnLeave
    dsimp only
    (repeat' split) <;> exact ⟨_, _, _, u.train, u.qualify.testIndex, _, rfl⟩

theorem placeOwnLeave_only (u : LineUnit) : ∃ b, placeOwnLeave u = { u with ctl := { u.ctl with leave := b } } := by
  unfold placeOwnLeave
  split
  · exact ⟨u.ctl.leave, rfl⟩
  · split
    · exact ⟨true, rfl⟩
    · exact ⟨u.ctl.leave, rfl⟩

theorem windDownLine_only (reason : WindDownReason) (u : LineUnit) :
    ∃ b, windDownLine reason u =
      { u with
        state := .windDown
        ctl :=
          { u.ctl with
            leave := b, windDown := if reason = .farRequest then u.ctl.windDown else some reason, rateAsk := none }
        svc :=
          { u.svc with
            losHold := .stopped, windowPeriods := 0, windowErrored := 0, reRateCheck := .stopped, downStreak := 0
            upStreak := 0, request := false, reRateTimer := .stopped
            windDown := some ⟨reason, .running Config.windDownLimit, false, false, false, none⟩ } } :=
  placeOwnLeave_only _

theorem rateSwitchLine_only (rate : Nat) (u : LineUnit) :
    ∃ ctl t, rateSwitchLine rate u = { u with sendRate := rate, ctl := ctl, svc := { u.svc with pendingTarget := t } } := by
  unfold rateSwitchLine
  split
  next h => exact ⟨u.ctl, none, by rw [← h]⟩
  · split
    · exact ⟨u.ctl, none, rfl⟩
    · exact ⟨_, u.svc.pendingTarget, rfl⟩

theorem exitLine_fields (reason : ExitReason) (s : State) (u : LineUnit) :
    (exitLine reason s u).queue = [] ∧
      ((exitLine reason s u).state = .off ∨ (exitLine reason s u).state = .quiet) ∧
      (exitLine reason s u).k = (raiseKAtExit u).k ∧ (exitLine reason s u).delay = u.delay ∧
      (exitLine reason s u).svc = .clear ∧ (exitLine reason s u).qualify = .start ∧
      (exitLine reason s u).ctl = .empty ∧ switchOnPair (exitLine reason s u) = none ∧
      echoAskOnPair (exitLine reason s u) = false := by
  obtain ⟨k, raised⟩ : ∃ k, raiseKAtExit u = { u with k := k } := by
    obtain ⟨_, h⟩ | ⟨_, h⟩ | ⟨_, _, h⟩ := raiseKAtExit_cases u <;> rw [h] <;> exact ⟨_, rfl⟩
  unfold exitLine
  rw [raised]
  dsimp only
  refine ⟨?_, ?_, ?_, ?_, ?_, ?_, ?_, ?_, ?_⟩
  case refine_2 =>
    by_cases hreason : reason = .conflict
    · rw [if_pos hreason]
      split <;> exact .inl rfl
    · rw [if_neg hreason]
      split <;> exact .inr rfl
  all_goals split <;> split <;> rfl

theorem failLine_fields (parting : Option Nat) (s : State) (u : LineUnit) :
    (failLine parting s u).queue = u.queue ∧ (failLine parting s u).state = .quiet ∧
      (failLine parting s u).k = min 7 (u.k + 1) ∧ (failLine parting s u).delay = u.delay ∧
      (failLine parting s u).svc = .clear ∧ (failLine parting s u).qualify = .start ∧
      (failLine parting s u).ctl = .empty ∧ switchOnPair (failLine parting s u) = none ∧
      echoAskOnPair (failLine parting s u) = false := by
  cases parting <;> exact ⟨rfl, rfl, rfl, rfl, rfl, rfl, rfl, rfl, rfl⟩

theorem lineOff_fields (u : LineUnit) :
    (lineOff u).queue = u.queue ∧ (lineOff u).state = .off ∧ (lineOff u).holdOff = .stopped ∧ (lineOff u).k = u.k ∧
      (lineOff u).delay = u.delay ∧ (lineOff u).svc = .clear ∧ (lineOff u).qualify = .start ∧
      (lineOff u).ctl = .empty ∧ (lineOff u).tx = none := ⟨rfl, rfl, rfl, rfl, rfl, rfl, rfl, rfl, rfl⟩

theorem conflictLine_fields (u : LineUnit) :
    (conflictLine u).queue = u.queue ∧ (conflictLine u).state = .off ∧ (conflictLine u).holdOff = .stopped ∧
      (conflictLine u).k = u.k ∧ (conflictLine u).delay = u.delay ∧ (conflictLine u).svc = .clear ∧
      (conflictLine u).qualify = .start ∧ (conflictLine u).ctl = .empty ∧ switchOnPair (conflictLine u) = none ∧
      echoAskOnPair (conflictLine u) = false := by
  unfold conflictLine
  split <;> exact ⟨rfl, rfl, rfl, rfl, rfl, rfl, rfl, rfl, rfl, rfl⟩

theorem enterDetectLine_only (s : State) (u : LineUnit) :
    ∃ m d tx n, enterDetectLine s u =
      { u with
        state := .detect, holdOff := .stopped, txCount := n, rxExpected := none, lit := false, litCount := 0
        unlitCount := 0, monitor := m, detect := d, tx := tx } := by
  unfold enterDetectLine
  dsimp only
  split
  · exact ⟨_, _, _, _, rfl⟩
  · exact ⟨_, _, u.tx, _, rfl⟩

theorem litPeriod_only (u : LineUnit) :
    ∃ m b i j, litPeriod u = { u with monitor := m, lit := b, litCount := i, unlitCount := j } := by
  unfold litPeriod
  split
  · exact ⟨u.monitor, _, _, _, rfl⟩
  · split
    · exact ⟨u.monitor, u.lit, _, _, rfl⟩
    · exact ⟨u.monitor, u.lit, u.litCount, _, rfl⟩

theorem losFilter_only (dark : Bool) (u : LineUnit) :
    ∃ b m n, losFilter dark u = { u with los := b, svc := { u.svc with darkRun := m, nonDarkRun := n } } := by
  unfold losFilter
  (repeat' split)
  · exact ⟨u.los, u.svc.darkRun, _, rfl⟩
  · exact ⟨_, _, _, rfl⟩
  · exact ⟨u.los, _, _, rfl⟩
  · exact ⟨_, _, _, rfl⟩
  · exact ⟨u.los, _, _, rfl⟩
  · exact ⟨u.los, _, u.svc.nonDarkRun, rfl⟩

end Sys2Proof.Machine

namespace Sys2Proof.Machine

/-! ### Moves and the send queue (R66, R76) -/

theorem tryQualify_queue (u : LineUnit) : (tryQualify u).queue = u.queue := by
  obtain h | ⟨_, _, _, h⟩ := tryQualify_cases u <;> rw [h]
  rfl

theorem trainEcho_queue (now : Stamp) (n : Nat) (u : LineUnit) : (trainEcho now n u).queue = u.queue := by
  unfold trainEcho
  (repeat' split) <;> first | rfl | exact tryQualify_queue _

/-- A move shortens the queue by its head, empties it, or leaves it as it was. -/
theorem LineMove.queue {g : GroupMonitor} {u v : LineUnit} (h : LineMove g u v) :
    v.queue = u.queue ∨ v.queue = [] ∨ ∃ f, u.queue = f :: v.queue := by
  cases h
  case exited s reason _ _ => exact .inr (.inl (exitLine_fields reason s u).1)
  case fragDone f rest _ hq =>
    obtain ⟨ctl, h⟩ := placeOwnLeave_only { u with queue := rest }
    rw [h]
    exact .inr (.inr ⟨f, hq⟩)
  all_goals left
  case lit => unfold lightPeriod; split <;> rfl
  case failed s parting far _ _ => exact (failLine_fields parting s _).1
  case evidenced s _ _ => obtain ⟨tr, h⟩ := trainOnly_takeEvidence (config s).role u; rw [h]
  case paramsEnded s _ _ => obtain ⟨tr, h⟩ := trainOnly_endParams (config s).role u; rw [h]
  case probed s f _ _ => obtain ⟨tr, h⟩ := trainOnly_trainProbe (config s).role f u; rw [h]
  case closed s f _ _ => obtain ⟨r, tr, h⟩ := trainClosing_only (config s).role f u; rw [h]
  case acked s _ _ => obtain ⟨tr, h⟩ := trainOnly_trainAcked (config s).role u; rw [h]
  case echoAskCame s now _ _ => obtain ⟨tr, h⟩ := trainOnly_trainEchoAsk (config s).role now u; rw [h]
  case echoCame now n _ => exact trainEcho_queue now n u
  case windowClosed => obtain ⟨tr, h⟩ := trainOnly_closeWindow u; rw [h]
  case switched => unfold endRequest; split <;> rfl
  case windingDown reason _ => obtain ⟨ctl, h⟩ := windDownLine_only reason u; rw [h]
  case detected s _ _ => obtain ⟨_, _, _, _, h⟩ := enterDetectLine_only s u; rw [h]
  case detectPeriod s _ _ =>
    obtain ⟨m, b, i, j, h⟩ := litPeriod_only { u with monitor := .running Config.monitorPeriod }
    unfold Machine.detectPeriod
    rw [h]
    dsimp only
    split <;> rfl
  case filtered dark _ => obtain ⟨_, _, _, h⟩ := losFilter_only dark u; rw [h]
  case checkedDown i m reason _ => obtain ⟨ctl, h⟩ := windDownLine_only reason (checkedLine i m u); rw [h]; rfl
  case switchDone rate _ _ => obtain ⟨_, _, h⟩ := rateSwitchLine_only rate { u with tx := none }; rw [h]
  case askDone => unfold rateAskEnds; split <;> rfl
  case echoDone => exact tryQualify_queue _
  case closingDone => obtain ⟨tr, h⟩ := trainOnly_closingProbeEnds u; rw [h]
  case chosen s _ _ => obtain ⟨_, _, _, _, _, _, h⟩ := chooseLine_only s u; rw [h]
  case conflicted => exact (conflictLine_fields u).1
  all_goals rfl

theorem LineMove.queue_length_le {g : GroupMonitor} {u v : LineUnit} (h : LineMove g u v) :
    v.queue.length ≤ u.queue.length := by
  obtain h | h | ⟨f, h⟩ := h.queue <;> rw [h] <;> simp

theorem LineMoves.queue_length_le {g : GroupMonitor} {u v : LineUnit} (h : LineMoves g u v) :
    v.queue.length ≤ u.queue.length :=
  h.keeps (P := fun w => w.queue.length ≤ u.queue.length) (fun _ _ hmove => hmove.queue_length_le.trans) le_rfl

/-! ### Moves and the state of the line unit (R81) -/

theorem inService_iff (u : LineUnit) : inService u = true ↔ u.state = .service ∨ u.state = .windDown := by
  simp [inService]

/-- In SERVICE and WIND-DOWN a move keeps the pair in service, or empties its queue. -/
theorem LineMove.stays_in_service {g : GroupMonitor} {u v : LineUnit} (h : LineMove g u v)
    (hu : inService u = true) : inService v = true ∨ v.queue = [] := by
  have hs := (inService_iff u).mp hu
  cases h
  case exited s reason _ _ => exact .inr (exitLine_fields reason s u).1
  all_goals left
  case lit => unfold lightPeriod; split <;> exact hu
  case passed h _ => simp_all [counting]
  case badTest h _ => simp_all [counting]
  case goodTest h _ => simp_all [counting]
  case switched => unfold endRequest; split <;> exact hu
  case windingDown reason _ => obtain ⟨ctl, h⟩ := windDownLine_only reason u; rw [h]; rfl
  case detected h => unfold holdOffDue at h; split at h <;> simp_all
  case filtered dark _ => obtain ⟨_, _, _, h⟩ := losFilter_only dark u; rw [h]; exact hu
  case checkedDown i m reason _ => obtain ⟨ctl, h⟩ := windDownLine_only reason (checkedLine i m u); rw [h]; rfl
  case switchDone rate _ _ => obtain ⟨_, _, h⟩ := rateSwitchLine_only rate { u with tx := none }; rw [h]; exact hu
  case askDone => unfold rateAskEnds; split <;> exact hu
  case chosen s _ _ => obtain ⟨_, _, _, _, _, _, h⟩ := chooseLine_only s u; rw [h]; exact hu
  case fragDone rest _ _ => obtain ⟨ctl, h⟩ := placeOwnLeave_only { u with queue := rest }; rw [h]; exact hu
  case conflicted h => simp [hu] at h
  all_goals first | exact hu | (exfalso; obtain hs | hs := hs <;> simp_all)

/-- R76: a move keeps the queue empty outside SERVICE and WIND-DOWN. -/
theorem LineMove.queue_only_in_service {g : GroupMonitor} {u v : LineUnit} (h : LineMove g u v)
    (hu : u.queue ≠ [] → inService u = true) : v.queue ≠ [] → inService v = true := by
  intro hv
  have hne : u.queue ≠ [] := by
    obtain h | h | ⟨f, h⟩ := h.queue
    · rwa [← h]
    · exact absurd h hv
    · simp [h]
  exact (h.stays_in_service (hu hne)).resolve_right hv

/-! ### Moves and a line unit at rest (R79, R83, R104) -/

/-- Outside ACTIVE no move begins a line unit that has not begun. -/
theorem LineMove.keeps_rest {g : GroupMonitor} {u v : LineUnit} (h : LineMove g u v) (hu : AtRest u) : AtRest v := by
  obtain ⟨hs, hh, hq⟩ := hu
  have hn : inService u = false := by obtain hs | hs := hs <;> simp [inService, hs]
  cases h
  case conflicted =>
    obtain ⟨hq', hs', hh', _⟩ := conflictLine_fields u
    exact ⟨.inl hs', by simp [holdOffCounts, hh'], hq'.trans hq⟩
  case lit =>
    unfold lightPeriod
    split <;> exact ⟨hs, hh, hq⟩
  case askDone =>
    unfold rateAskEnds
    split <;> exact ⟨hs, hh, hq⟩
  case detected h =>
    unfold holdOffDue at h
    unfold holdOffCounts at hh
    split at h <;> simp_all
  case chosen s _ _ =>
    unfold chooseLine
    obtain hs' | hs' := id hs <;> simp only [hs'] <;> exact ⟨hs, hh, hq⟩
  case failed h => obtain hs | hs := hs <;> simp [hs] at h
  case expect => exact ⟨hs, hh, hq⟩
  case deferred => exact ⟨hs, hh, hq⟩
  case losChanged => exact ⟨hs, hh, hq⟩
  case txDone => exact ⟨hs, hh, hq⟩
  case leaveDone => exact ⟨hs, hh, hq⟩
  all_goals exfalso; obtain hs | hs := hs <;> simp_all [counting]

end Sys2Proof.Machine

namespace Sys2Proof.Machine

/-! ### Moves and the ranges of the counts (R57, R82, R84, R101, R106) -/

/-- The ranges of one line unit: k, D, and the counts that act at a bound. -/
abbrev LineRanges (u : LineUnit) : Prop := u.k ≤ 7 ∧ u.delay ≤ Config.maxDelay ∧ LineCounts u

/-- A line unit whose service record and qualification record are as at the start. -/
theorem LineRanges.of_cleared {u : LineUnit} (hk : u.k ≤ 7) (hd : u.delay ≤ Config.maxDelay) (hsvc : u.svc = .clear)
    (hq : u.qualify = .start) (hs : u.state ≠ .detect) : LineRanges u := by
  simp [LineRanges, LineCounts, hk, hd, hsvc, hq, hs, ServiceRecord.clear, QualifyRecord.start]

theorem LineRanges.of_trainOnly {u v : LineUnit} (h : TrainOnly u v) (hu : LineRanges u) : LineRanges v := by
  obtain ⟨tr, rfl⟩ := h
  exact hu

theorem LineRanges.tryQualify {u : LineUnit} (hu : LineRanges u) : LineRanges (tryQualify u) := by
  obtain h | ⟨_, _, _, h⟩ := tryQualify_cases u <;> rw [h]
  · exact hu
  · obtain ⟨hk, hd, _, h1, h2, h3, h4, h5, h6, _⟩ := hu
    exact ⟨hk, hd, nofun, h1, h2, h3, h4, h5, h6, Nat.zero_lt_succ _, Nat.zero_le _, fun _ => Nat.zero_lt_succ _⟩

theorem LineRanges.trainEcho {u : LineUnit} (hu : LineRanges u) (now : Stamp) (n : Nat) :
    LineRanges (trainEcho now n u) := by
  unfold Machine.trainEcho
  split
  · exact hu
  · split
    · apply LineRanges.tryQualify
      obtain ⟨hk, _, hc⟩ := hu
      exact ⟨hk, pathDelay_le _ _ _, hc⟩
    · exact hu

theorem LineRanges.windDownLine {u : LineUnit} (hu : LineRanges u) (reason : WindDownReason) :
    LineRanges (windDownLine reason u) := by
  obtain ⟨ctl, h⟩ := windDownLine_only reason u
  rw [h]
  obtain ⟨hk, hd, _, h1, h2, _, _, _, _, hq⟩ := hu
  exact ⟨hk, hd, nofun, h1, h2, Nat.zero_lt_succ _, le_rfl, Nat.zero_le _, Nat.zero_le _, hq⟩

theorem LineRanges.losFilter {u : LineUnit} (hu : LineRanges u) (dark : Bool) : LineRanges (losFilter dark u) := by
  obtain ⟨hk, hd, hl, h1, h2, hrest⟩ := hu
  unfold Machine.losFilter
  (repeat' split) <;> refine ⟨hk, hd, hl, ?_, ?_, hrest⟩ <;> dsimp only <;> omega

theorem LineRanges.windowAfter {u : LineUnit} (hu : LineRanges u) (threshold : Nat) (errored : Bool) :
    LineRanges { u with svc := (windowAfter threshold errored u.svc).1 } := by
  obtain ⟨hk, hd, hl, h1, h2, h3, h4, h5⟩ := hu
  unfold Machine.windowAfter
  dsimp only
  obtain hlt | hge := Nat.lt_or_ge (u.svc.windowPeriods + 1) Config.windowPeriods
  · rw [if_neg hlt.not_ge]
    refine ⟨hk, hd, hl, h1, h2, hlt, ?_, h5⟩
    dsimp only
    split <;> omega
  · rw [if_pos hge]
    exact ⟨hk, hd, hl, h1, h2, Nat.zero_lt_succ _, le_rfl, h5⟩

theorem LineRanges.enterTrainLine {u : LineUnit} (hk : u.k ≤ 7) (hrest : LineRanges { u with state := .train })
    (s : State) : LineRanges (enterTrainLine s u) := by
  obtain ⟨_, _, _, hc⟩ := hrest
  exact ⟨hk, Nat.zero_le _, nofun, hc⟩

theorem litPeriod_counts (u : LineUnit) : (litPeriod u).litCount ≤ u.litCount + 1 ∧ (litPeriod u).unlitCount ≤ 3 := by
  unfold litPeriod
  split
  · exact ⟨le_rfl, Nat.zero_le _⟩
  · split
    · exact ⟨Nat.zero_le _, Nat.zero_le _⟩
    next hlt => exact ⟨Nat.le_succ _, Nat.le_of_lt_succ (Nat.lt_of_not_le hlt)⟩

theorem LineRanges.detectPeriod {u : LineUnit} (hu : LineRanges u) (hs : u.state = .detect) (s : State) :
    LineRanges (detectPeriod s u) := by
  obtain ⟨hk, hd, hl, hc⟩ := hu
  obtain ⟨hlit, hunlit⟩ := hl hs
  obtain ⟨m, b, i, j, h⟩ := litPeriod_only { u with monitor := .running Config.monitorPeriod }
  obtain ⟨hi, hj⟩ := litPeriod_counts { u with monitor := .running Config.monitorPeriod }
  unfold Machine.detectPeriod
  rw [h] at hi hj ⊢
  dsimp only at hi hj ⊢
  split
  · refine LineRanges.enterTrainLine ?_ ?_ s
    · exact hk
    · exact ⟨hk, hd, nofun, hc⟩
  next h3 => exact ⟨hk, hd, fun _ => ⟨Nat.le_of_lt_succ (Nat.lt_of_not_le h3), hj⟩, hc⟩

/-- A move keeps k, D and the counts in their ranges. -/
theorem LineMove.keeps_ranges {g : GroupMonitor} {u v : LineUnit} (h : LineMove g u v) (hu : LineRanges u) :
    LineRanges v := by
  obtain ⟨hk, hd, hc⟩ := id hu
  obtain ⟨hl, h1, h2, h3, h4, h5, h6, h7, h8, h9⟩ := id hc
  cases h
  case expect => exact hu
  case marked => exact hu
  case spoiled => exact hu
  case unlit => exact ⟨hk, hd, fun _ => ⟨Nat.zero_le _, Nat.zero_le _⟩, hc.2⟩
  case lit => unfold lightPeriod; split <;> exact hu
  case received => exact hu
  case badTest n _ hb => exact ⟨hk, hd, hl, h1, h2, h3, h4, h5, h6, hb, h8, h9⟩
  case goodTest _ hg => exact ⟨hk, hd, hl, h1, h2, h3, h4, h5, h6, h7, hg.le, fun _ => hg⟩
  case passed hcount hg =>
    have hown : u.qualify.ownPass = false := by simp_all [counting]
    exact ⟨hk, hd, hl, h1, h2, h3, h4, h5, h6, h7, h9 hown, nofun⟩
  case farPassed => exact hu
  case served s m _ _ =>
    exact ⟨hk, hd, nofun, Nat.zero_le _, Nat.zero_le _, Nat.zero_lt_succ _, le_rfl, Nat.zero_le _, Nat.zero_le _, h7, h8, h9⟩
  case failed s parting far _ _ =>
    obtain ⟨_, hs, hk', hd', hsvc, hq, _⟩ := failLine_fields parting s { u with farParams := far }
    exact .of_cleared (hk' ▸ Nat.min_le_left _ _) (hd'.trans_le hd) hsvc hq (by simp [hs])
  case ranged => exact hu
  case evidenced s _ _ => exact hu.of_trainOnly (trainOnly_takeEvidence _ u)
  case paramsEnded s _ _ => exact hu.of_trainOnly (trainOnly_endParams _ u)
  case probed s f _ _ => exact hu.of_trainOnly (trainOnly_trainProbe _ f u)
  case closed s f _ _ =>
    obtain ⟨r, hr⟩ := trainClosing_only (config s).role f u
    exact LineRanges.of_trainOnly hr hu
  case acked s _ _ => exact hu.of_trainOnly (trainOnly_trainAcked _ u)
  case echoAskCame s now _ _ => exact hu.of_trainOnly (trainOnly_trainEchoAsk _ now u)
  case echoCame now n _ => exact hu.trainEcho now n
  case searched => exact hu
  case found => exact hu
  case windowClosed => exact hu.of_trainOnly (trainOnly_closeWindow u)
  case closingRepeated => exact hu
  case targeted => exact hu
  case switched f _ =>
    unfold endRequest
    split
    · exact ⟨hk, hd, hl, h1, h2, h3, h4, Nat.zero_le _, Nat.zero_le _, h7, h8, h9⟩
    · exact hu
  case windingDown reason _ => exact hu.windDownLine reason
  case farLeft => exact hu
  case exited s reason _ _ =>
    obtain ⟨_, hs, hk', hd', hsvc, hq, _⟩ := exitLine_fields reason s u
    refine .of_cleared (hk' ▸ ?_) (hd'.trans_le hd) hsvc hq (by obtain hs | hs := hs <;> simp [hs])
    obtain ⟨_, h⟩ | ⟨_, h⟩ | ⟨_, _, h⟩ := raiseKAtExit_cases u <;> rw [h]
    · exact hk
    · exact Nat.zero_le _
    · exact Nat.min_le_left _ _
  case deferred => exact hu
  case detected s _ _ =>
    obtain ⟨_, _, _, _, h⟩ := enterDetectLine_only s u
    rw [h]
    exact ⟨hk, hd, fun _ => ⟨Nat.zero_le _, Nat.zero_le _⟩, hc.2⟩
  case detectPeriod s _ hs => exact hu.detectPeriod hs s
  case periodBegun => exact hu
  case filtered dark _ => exact hu.losFilter dark
  case losChanged => exact hu
  case windowed threshold errored _ => exact hu.windowAfter threshold errored
  case checked hdown hup =>
    exact ⟨hk, hd, hl, h1, h2, h3, h4, Nat.le_of_lt_succ hdown, Nat.le_of_lt_succ hup, h7, h8, h9⟩
  case asked => exact ⟨hk, hd, hl, h1, h2, h3, h4, Nat.zero_le _, Nat.zero_le _, h7, h8, h9⟩
  case checkedDown i m reason _ =>
    obtain ⟨ctl, h⟩ := windDownLine_only reason (checkedLine i m u)
    rw [h]
    exact ⟨hk, hd, nofun, h1, h2, Nat.zero_lt_succ _, le_rfl, Nat.zero_le _, Nat.zero_le _, h7, h8, h9⟩
  case clocked => exact ⟨Nat.zero_le _, hd, hc⟩
  case txDone => exact hu
  case fragDone rest _ _ =>
    obtain ⟨ctl, h⟩ := placeOwnLeave_only { u with queue := rest }
    rw [h]
    exact hu
  case switchDone rate _ _ =>
    obtain ⟨_, _, h⟩ := rateSwitchLine_only rate { u with tx := none }
    rw [h]
    exact hu
  case askDone => unfold rateAskEnds; split <;> exact hu
  case echoAskDone => exact hu
  case echoDone => exact LineRanges.tryQualify (u := { u with train := { u.train with echoSent := true } }) hu
  case closingDone => exact hu.of_trainOnly (trainOnly_closingProbeEnds u)
  case leaveDone => exact hu
  case chosen s _ _ =>
    obtain ⟨_, _, _, _, _, _, h⟩ := chooseLine_only s u
    rw [h]
    exact hu
  case conflicted =>
    obtain ⟨_, hs, _, hk', hd', hsvc, hq, _⟩ := conflictLine_fields u
    exact .of_cleared (hk'.trans_le hk) (hd'.trans_le hd) hsvc hq (by simp [hs])

end Sys2Proof.Machine

namespace Sys2Proof.Machine

/-! ### Moves and the rates (R56, R92, R93, R96, R102, R114 to R116) -/

section
variable {c : StartRecord} {u v : LineUnit}

theorem LineRates.of_idle (hs : u.state = .off ∨ u.state = .quiet ∨ u.state = .detect)
    (hctl : u.ctl.rateSwitch = none) (hsw : switchOnPair u = none) (hask : echoAskOnPair u = false) : LineRates c u := by
  have hn : inService u = false := by obtain h | h | h := hs <;> simp [inService, h]
  refine ⟨by simp [hn], fun _ => ⟨hctl, hsw⟩, fun _ => hask, ?_, ?_⟩ <;>
    (intro h; obtain hs | hs | hs := hs <;> simp [hs] at h)

theorem LineRates.of_train (hs : u.state = .train) (hctl : u.ctl.rateSwitch = none) (hsw : switchOnPair u = none)
    (ht : TrainRates c u) : LineRates c u :=
  ⟨by simp [inService, hs], fun _ => ⟨hctl, hsw⟩, by simp [hs], fun _ => ht, by simp [hs]⟩

theorem LineRates.of_qualify (hs : u.state = .qualify) (hctl : u.ctl.rateSwitch = none) (hsw : switchOnPair u = none)
    (hq : QualifyRates c u) : LineRates c u :=
  ⟨by simp [inService, hs], fun _ => ⟨hctl, hsw⟩, by simp [hs], by simp [hs], fun _ => hq⟩

theorem LineRates.of_inService (hs : inService u = true) (hr : ServiceRates c u) : LineRates c u := by
  have hs' := (inService_iff u).mp hs
  refine ⟨fun _ => hr, by simp [hs], ?_, ?_, ?_⟩ <;>
    (intro h; obtain hs | hs := hs' <;> simp [hs] at h)

theorem LineRates.not_inService (h : LineRates c u) (hs : u.state ≠ .service ∧ u.state ≠ .windDown) :
    u.ctl.rateSwitch = none ∧ switchOnPair u = none :=
  h.2.1 (by simp [inService, hs])

theorem LineRates.service (h : LineRates c u) (hs : inService u = true) : ServiceRates c u := h.1 hs

theorem LineRates.train (h : LineRates c u) (hs : u.state = .train) : TrainRates c u := h.2.2.2.1 hs

theorem LineRates.qualify (h : LineRates c u) (hs : u.state = .qualify) : QualifyRates c u := h.2.2.2.2 hs

/-- A move inside TRAIN that touches the working record alone owes only the rates of TRAIN. -/
theorem LineRates.of_trainOnly (hu : LineRates c u) (hs : u.state = .train) (h : TrainOnly u v) (ht : TrainRates c v) :
    LineRates c v := by
  obtain ⟨hctl, hsw⟩ := hu.not_inService (by simp [hs])
  obtain ⟨tr, rfl⟩ := h
  exact .of_train hs hctl hsw ht

/-! #### TRAIN -/

theorem TrainRates.modTrain {f : TrainRecord → TrainRecord} (h : TrainRates c u)
    (hsame : (f u.train).phase = u.train.phase ∧ (f u.train).lo = u.train.lo ∧ (f u.train).hi = u.train.hi ∧
      (f u.train).search = u.train.search)
    (hecho : echoBegun (modTrain f u) = true → echoBegun u = true) : TrainRates c (modTrain f u) := by
  obtain ⟨range, far, within, send, recv, closing, echo, begun, cab, farm⟩ := h
  obtain ⟨hphase, hlo, hhi, hsearch⟩ := hsame
  refine ⟨?_, ?_, ?_, send, recv, ?_, ?_, fun hb => begun (hecho hb), ?_, ?_⟩ <;>
    simp only [Machine.modTrain, SearchWithin, hphase, hlo, hhi, hsearch] <;> assumption

theorem TrainRates.beginSearch (h : TrainRates c u) (hfar : u.farParams.isSome = true)
    (hfarm : c.role = .farm → u.trainedRecv ≠ 0) : TrainRates c (beginSearch u) := by
  obtain ⟨range, far, within, send, recv, closing, echo, begun, cab, farm⟩ := h
  obtain ⟨hlo, hle, hhi⟩ := range hfar
  refine ⟨range, fun _ => hfar, ?_, send, recv, nofun, nofun, begun, nofun, fun hr _ => hfarm hr⟩
  simp only [SearchWithin, Machine.beginSearch, searchStart, Option.mem_some_iff, forall_eq']
  simpa using hle

theorem TrainRates.receiving (h : TrainRates c u) (hfar : u.farParams.isSome = true)
    (hcab : c.role = .cabinet → u.trainedSend ≠ 0) (pending : Bool) (wait : Timer) :
    TrainRates c
      { u with train := { u.train with phase := .receiving, closingPending := pending, closingWait := wait } } := by
  obtain ⟨range, far, within, send, recv, closing, echo, begun, cab, farm⟩ := h
  exact ⟨range, fun _ => hfar, within, send, recv, nofun, nofun, begun, fun hr _ => hcab hr, nofun⟩

theorem TrainRates.enterEcho (h : TrainRates c u) (hfar : u.farParams.isSome = true)
    (hrates : u.trainedSend ≠ 0 ∧ u.trainedRecv ≠ 0) : TrainRates c (enterEcho u) := by
  obtain ⟨range, far, within, send, recv, closing, echo, begun, cab, farm⟩ := h
  exact ⟨range, fun _ => hfar, within, send, recv, nofun, fun _ => hrates, fun _ => hrates, nofun, nofun⟩

theorem TrainRates.far_of_phase (h : TrainRates c u) (hp : u.train.phase ≠ .params) : u.farParams.isSome = true :=
  h.2.1 (.inl hp)

theorem TrainRates.endParams (h : TrainRates c u) : TrainRates c (endParams c.role u) := by
  unfold Machine.endParams
  split
  next hp =>
    cases hr : c.role with
    | cabinet => exact h.beginSearch hp.2.1 (by simp [hr])
    | farm => exact h.receiving hp.2.1 (by simp [hr]) u.train.closingPending u.train.closingWait
  · exact h

theorem TrainRates.takeEvidence (h : TrainRates c u) : TrainRates c (takeEvidence c.role u) :=
  (h.modTrain ⟨rfl, rfl, rfl, rfl⟩ id).endParams

theorem TrainRates.closingAcked (h : TrainRates c u) (hp : u.train.phase = .closing) :
    TrainRates c (closingAcked c.role u) := by
  have hfar := h.far_of_phase (by simp [hp])
  obtain ⟨_, _, _, _, _, closing, _, _, _, farm⟩ := id h
  cases hr : c.role with
  | cabinet => exact h.receiving hfar (fun _ => closing hp) false .stopped
  | farm => exact h.enterEcho hfar ⟨closing hp, farm hr (.inr hp)⟩

theorem TrainRates.probeAcks (h : TrainRates c u) : TrainRates c (probeAcks c.role u) := by
  unfold Machine.probeAcks
  split
  next hp => exact h.closingAcked hp.2
  · exact h

theorem TrainRates.closeWindow (h : TrainRates c u) : TrainRates c (closeWindow u) := by
  unfold Machine.closeWindow
  split
  · exact h.modTrain (f := fun t => { t with window := .stopped }) ⟨rfl, rfl, rfl, rfl⟩ id
  next j _ =>
    exact h.modTrain
      (f := fun t =>
        { t with
          window := .stopped, judge := some { j with judged := true }
          verdict := some (.burst j.burst j.good (decide (Config.cleanBurst ≤ j.good))) }) ⟨rfl, rfl, rfl, rfl⟩ id

theorem TrainRates.judgeProbe (h : TrainRates c u) (f : Frame) : TrainRates c (judgeProbe f u) := by
  unfold Machine.judgeProbe
  split
  · exact h
  · have judged := h.modTrain
      (f := fun t =>
        { t with
          judge := some ‹BurstJudge›
          window := .running (probeWindow (frameSeq f).toNat (rateField (bodyWord f.body 1))) }) ⟨rfl, rfl, rfl, rfl⟩ id
    dsimp only
    split
    · exact judged.closeWindow
    · exact judged

theorem TrainRates.trainProbe (h : TrainRates c u) (f : Frame) : TrainRates c (trainProbe c.role f u) := by
  have acked := h.takeEvidence.probeAcks
  unfold Machine.trainProbe
  dsimp only
  split
  · exact (acked.modTrain ⟨rfl, rfl, rfl, rfl⟩ id).judgeProbe f
  · exact acked

theorem rateField_bounds (n : Nat) : 1 ≤ rateField n ∧ rateField n ≤ 256 := by
  unfold rateField
  split <;> omega

theorem TrainRates.recordClosing (h : TrainRates c u) (n : Nat) : TrainRates c (recordClosing (rateField n) u) := by
  obtain ⟨range, far, within, send, recv, closing, echo, begun, cab, farm⟩ := h
  obtain ⟨hpos, hmax⟩ := rateField_bounds n
  have hne : rateField n ≠ 0 := by omega
  exact ⟨range, far, within, send, hmax, closing, fun hp => ⟨(echo hp).1, hne⟩, fun hb => ⟨(begun hb).1, hne⟩, cab,
    fun _ _ => hne⟩

theorem TrainRates.directionEnds (h : TrainRates c u) (hrecv : u.trainedRecv ≠ 0) :
    TrainRates c (directionEnds c.role u) := by
  unfold Machine.directionEnds
  split
  next hp =>
    have hfar := h.far_of_phase (by simp [hp])
    obtain ⟨_, _, _, _, _, _, _, _, cab, _⟩ := id h
    cases hr : c.role with
    | farm => exact h.beginSearch hfar fun _ => hrecv
    | cabinet => exact h.enterEcho hfar ⟨cab hr hp, hrecv⟩
  · exact h

theorem TrainRates.trainClosing (h : TrainRates c u) (f : Frame) : TrainRates c (trainClosing c.role f u) := by
  have acked := h.takeEvidence.probeAcks
  unfold Machine.trainClosing
  dsimp only
  split
  · refine (acked.recordClosing _).directionEnds ?_
    exact Nat.one_le_iff_ne_zero.mp (rateField_bounds _).1
  · exact acked

theorem TrainRates.trainAcked (h : TrainRates c u) : TrainRates c (trainAcked c.role u) := by
  unfold Machine.trainAcked
  dsimp only
  split
  next hp => exact h.takeEvidence.closingAcked hp
  · exact h.takeEvidence

theorem TrainRates.trainEchoAsk (h : TrainRates c u) (now : Stamp) : TrainRates c (trainEchoAsk c.role now u) := by
  unfold Machine.trainEchoAsk
  split
  · exact h
  · dsimp only
    split
    next hc => exact (h.closingAcked hc.2).modTrain ⟨rfl, rfl, rfl, rfl⟩ id
    · exact h.modTrain ⟨rfl, rfl, rfl, rfl⟩ id

/-- R93: the next search record stays in the range, and so does the rate a search ends with. -/
theorem searchStep_within {lo hi : Nat} {clean : Bool} {sr : Search} (hle : lo ≤ hi)
    (hc : lo ≤ sr.candidate ∧ sr.candidate ≤ hi) (hg : ∀ g ∈ sr.good, lo ≤ g ∧ g ≤ hi)
    (hx : ∀ x ∈ sr.fail, lo ≤ x ∧ x ≤ hi) :
    (∀ sr', searchStep lo hi clean sr = .next sr' →
      lo ≤ sr'.candidate ∧ sr'.candidate ≤ hi ∧ (∀ g ∈ sr'.good, lo ≤ g ∧ g ≤ hi) ∧ ∀ x ∈ sr'.fail, lo ≤ x ∧ x ≤ hi) ∧
      ∀ rate, searchStep lo hi clean sr = .done rate → lo ≤ rate ∧ rate ≤ hi := by
  have hgood : lo ≤ sr.good.getD lo ∧ sr.good.getD lo ≤ hi := by
    cases h : sr.good with
    | none => exact ⟨le_rfl, hle⟩
    | some g => exact hg g h
  have hfail : lo ≤ sr.fail.getD hi ∧ sr.fail.getD hi ≤ hi := by
    cases h : sr.fail with
    | none => exact ⟨hle, le_rfl⟩
    | some x => exact hx x h
  have halved {good fail : Nat} (h1 : lo ≤ good ∧ good ≤ hi) (h2 : lo ≤ fail ∧ fail ≤ hi) (burst : Nat) :
      (∀ sr', halve good fail burst = .next sr' →
        lo ≤ sr'.candidate ∧ sr'.candidate ≤ hi ∧ (∀ g ∈ sr'.good, lo ≤ g ∧ g ≤ hi) ∧
          ∀ x ∈ sr'.fail, lo ≤ x ∧ x ≤ hi) ∧
        ∀ rate, halve good fail burst = .done rate → lo ≤ rate ∧ rate ≤ hi := by
    obtain ⟨hnext, hdone⟩ := halve_within lo hi good fail burst h1 h2
    refine ⟨fun sr' h => ⟨(hnext sr' h).1, (hnext sr' h).2, ?_⟩, hdone⟩
    unfold halve at h
    split at h
    · obtain rfl := SearchStep.next.inj h
      simpa using ⟨h1, h2⟩
    · cases h
  unfold searchStep
  split
  · split
    · split
      · exact ⟨nofun, fun rate h => by obtain rfl := SearchStep.done.inj h; exact ⟨hle, le_rfl⟩⟩
      · refine ⟨fun sr' h => ?_, nofun⟩
        obtain rfl := SearchStep.next.inj h
        refine ⟨by dsimp only; omega, by dsimp only; omega, by simpa using hc, hx⟩
    · split
      · exact ⟨nofun, nofun⟩
      · exact halved hgood hc _
  · split
    · exact halved hc hfail _
    · exact halved hgood hc _

end

end Sys2Proof.Machine

namespace Sys2Proof.Machine

section
variable {c : StartRecord} {u v : LineUnit}

theorem TrainRates.searched (h : TrainRates c u) {clean : Bool} {sr sr' : Search} (hsr : u.train.search = some sr)
    (hstep : searchStep u.train.lo u.train.hi clean sr = .next sr') :
    TrainRates c { u with train := { u.train with search := some sr', probeNext := some 0, deadline := .stopped } } := by
  obtain ⟨range, far, within, send, recv, closing, echo, begun, cab, farm⟩ := h
  have hfar := far (.inr (by simp [hsr]))
  obtain ⟨hlo, hhi, hg, hx⟩ := within sr hsr
  have next := (searchStep_within (range hfar).2.1 ⟨hlo, hhi⟩ hg hx).1 sr' hstep
  refine ⟨range, fun _ => hfar, ?_, send, recv, closing, echo, begun, cab, farm⟩
  simpa only [SearchWithin, Option.mem_some_iff, forall_eq'] using next

theorem TrainRates.found (h : TrainRates c u) (hmin : 1 ≤ c.minRate) {clean : Bool} {sr : Search} {rate : Nat}
    (hphase : u.train.phase = .sending) (hsr : u.train.search = some sr) (hstep : searchStep u.train.lo u.train.hi clean sr = .done rate) :
    TrainRates c (endSearch rate u) := by
  obtain ⟨range, far, within, send, recv, closing, echo, begun, cab, farm⟩ := h
  have hfar := far (.inr (by simp [hsr]))
  obtain ⟨hlo, hle, hhi⟩ := range hfar
  obtain ⟨hc1, hc2, hg, hx⟩ := within sr hsr
  obtain ⟨h1, h2⟩ := (searchStep_within hle ⟨hc1, hc2⟩ hg hx).2 rate hstep
  have hne : rate ≠ 0 := by omega
  exact ⟨range, fun _ => hfar, within, .inr ⟨hlo.trans h1, h2.trans hhi⟩, recv, fun _ => hne, nofun,
    fun hb => ⟨hne, (begun hb).2⟩, nofun, fun hr _ => farm hr (.inl hphase)⟩

theorem LineRates.tryQualify (h : TrainRates c u) (hs : u.state = .train)
    (hctl : u.ctl.rateSwitch = none) (hsw : switchOnPair u = none) : LineRates c (tryQualify u) := by
  obtain hq | ⟨_, hmeasured, _, hq⟩ := tryQualify_cases u <;> rw [hq]
  · exact .of_train hs hctl hsw h
  · obtain ⟨_, _, _, send, recv, _, _, begun, _⟩ := h
    obtain ⟨hsend, hrecv⟩ := begun (by simp [echoBegun, hmeasured])
    obtain ⟨h1, h2⟩ := send.resolve_left hsend
    exact .of_qualify rfl hctl hsw ⟨h1, h2, Nat.one_le_iff_ne_zero.mpr hrecv, recv⟩

theorem LineRates.trainEcho (h : LineRates c u) (hs : u.state = .train) (now : Stamp) (n : Nat) :
    LineRates c (trainEcho now n u) := by
  unfold Machine.trainEcho
  split
  · exact h
  · split
    next hrun =>
      obtain ⟨hctl, hsw⟩ := h.not_inService (by simp [hs])
      obtain ⟨range, far, within, send, recv, closing, echo, begun, cab, farm⟩ := h.train hs
      have hb := begun (by simp_all [echoBegun])
      exact .tryQualify ⟨range, far, within, send, recv, closing, echo, fun _ => hb, cab, farm⟩ hs hctl hsw
    · exact h

/-! #### The choice of a frame -/

theorem chooseTrain_rates (h : LineRates c u) (hs : u.state = .train) (htx : u.tx = none) (s : State) :
    LineRates c (chooseTrain s u) := by
  obtain ⟨hctl, -⟩ := h.not_inService (by simp [hs])
  obtain ⟨range, far, within, send, recv, closing, echo, begun, cab, farm⟩ := h.train hs
  have sends {tr : TrainRecord} {content : TxContent} {rate : Nat} (hc : ∀ r, content ≠ .rateSwitch r)
      (hsame : tr.phase = u.train.phase ∧ tr.lo = u.train.lo ∧ tr.hi = u.train.hi ∧ tr.search = u.train.search)
      (hecho : echoBegun (txStart content rate { u with train := tr }) = true → echoBegun u = true) :
      LineRates c (txStart content rate { u with train := tr }) := by
    obtain ⟨hphase, hlo, hhi, hsearch⟩ := hsame
    refine .of_train hs hctl ?_ ?_
    · unfold switchOnPair txStart
      split
      next r _ _ heq => exact absurd (congrArg TxFrame.content (Option.some.inj heq)) (hc r)
      · rfl
    · refine ⟨?_, ?_, ?_, send, recv, ?_, ?_, fun hb => begun (hecho hb), ?_, ?_⟩ <;>
        simp only [txStart, SearchWithin, hphase, hlo, hhi, hsearch] <;> assumption
  unfold chooseTrain
  split
  · exact sends nofun ⟨rfl, rfl, rfl, rfl⟩ (by simp [echoBegun, txStart, echoAskOnPair, htx])
  · split
    · exact sends nofun ⟨rfl, rfl, rfl, rfl⟩ (by simp [echoBegun, txStart, echoAskOnPair, htx])
    · exact sends nofun ⟨rfl, rfl, rfl, rfl⟩ (by simp [echoBegun, txStart, echoAskOnPair, htx])
    · split
      · exact sends nofun ⟨rfl, rfl, rfl, rfl⟩ (by simp [echoBegun, txStart, echoAskOnPair, htx])
      · split
        next hask => exact sends nofun ⟨rfl, rfl, rfl, rfl⟩ (by simp [echoBegun, hask])
        · split
          · exact sends nofun ⟨rfl, rfl, rfl, rfl⟩ (by simp [echoBegun, txStart, echoAskOnPair, htx])
          · have fill : ∀ r, trainFill s u ≠ .rateSwitch r := by
              intro r
              unfold trainFill
              split <;> nofun
            refine sends fill ⟨rfl, rfl, rfl, rfl⟩ ?_
            unfold trainFill
            split <;> simp [echoBegun, txStart, echoAskOnPair, htx]

theorem chooseService_rates (h : ServiceRates c u) : ServiceRates c (chooseService u) := by
  obtain ⟨h1, h2, h3, ht, ⟨hpend, -⟩, h5, h6, h7⟩ := h
  unfold chooseService
  split
  · refine ⟨h1, h2, h3, ht, ⟨hpend, ?_⟩, h5, h6, h7⟩
    simp [switchOnPair, txStart]
  · split
    · refine ⟨h1, h2, h3, ht, ⟨hpend, ?_⟩, h5, h6, h7⟩
      simp [switchOnPair, txStart]
    · split
      next rate hrate =>
        refine ⟨h1, h2, h3, ht, ⟨by simp [txStart], ?_⟩, h5, h6, h7⟩
        simpa [switchOnPair, txStart] using hpend rate hrate
      · (repeat' split) <;>
          (refine ⟨h1, h2, h3, ht, ⟨hpend, ?_⟩, h5, h6, h7⟩
           simp [switchOnPair, txStart])

theorem chooseLine_rates (h : LineRates c u) (htx : u.tx = none) (s : State) : LineRates c (chooseLine s u) := by
  have serves (hs : inService u = true) : LineRates c (chooseService u) := by
    refine .of_inService ?_ (chooseService_rates (h.service hs))
    unfold chooseService
    (repeat' split) <;> exact hs
  unfold chooseLine
  split
  · exact h
  · exact h
  next hs => exact .of_idle (.inr (.inr hs)) (h.not_inService (by simp [hs])).1 rfl rfl
  next hs => exact chooseTrain_rates h hs htx s
  next hs =>
    have hctl := (h.not_inService (by simp [hs])).1
    unfold chooseQualify
    (repeat' split) <;> exact .of_qualify hs hctl rfl (h.qualify hs)
  next hs => exact serves (by simp [inService, hs])
  next hs =>
    have hv := serves (by simp [inService, hs])
    unfold placeOwnLeave
    (repeat' split) <;> exact hv

end

end Sys2Proof.Machine

namespace Sys2Proof.Machine

section
variable {c : StartRecord} {u v : LineUnit}

theorem ServiceRates.rateSwitchLine (h : ServiceRates c u) {rate : Nat} (hr : c.minRate ≤ rate ∧ rate ≤ u.trainedSend) :
    ServiceRates c (rateSwitchLine rate { u with tx := none }) := by
  obtain ⟨_, _, h3, ht, ⟨hpend, -⟩, h5, h6, h7⟩ := h
  obtain ⟨hlo, hhi⟩ := hr
  unfold Machine.rateSwitchLine
  split
  next hnone => exact ⟨hlo, hhi, h3, ht, ⟨hpend, nofun⟩, h5, h6, h7⟩
  next t hsome =>
    split
    · exact ⟨hlo, hhi, h3, nofun, ⟨hpend, nofun⟩, h5, h6, h7⟩
    · refine ⟨hlo, hhi, h3, ht, ⟨?_, nofun⟩, h5, h6, h7⟩
      intro r hrs
      obtain rfl := Option.some.inj hrs
      exact ht _ hsome

theorem ServiceRates.recordTarget (h : ServiceRates c u) (f : Frame) :
    ServiceRates c (recordTarget (askedTarget c.minRate f u) u) := by
  obtain ⟨h1, h2, h3, -, ⟨hpend, hpair⟩, h5, h6, h7⟩ := h
  have asked : c.minRate ≤ askedTarget c.minRate f u ∧ askedTarget c.minRate f u ≤ u.trainedSend := by
    unfold askedTarget clampNat
    omega
  refine ⟨h1, h2, h3, ?_, ⟨?_, hpair⟩, h5, h6, h7⟩
  · intro t ht
    obtain rfl := Option.some.inj ht
    exact asked
  · unfold Machine.recordTarget
    split
    · exact hpend
    · intro r hr
      obtain rfl := Option.some.inj hr
      exact asked

theorem ServiceRates.windDownLine (h : ServiceRates c u) (reason : WindDownReason) :
    ServiceRates c (windDownLine reason u) := by
  obtain ⟨b, hb⟩ := windDownLine_only reason u
  rw [hb]
  exact h

/-- A move keeps the rates of a line unit in the order that its state asks for. -/
theorem LineMove.keeps_rates {g : GroupMonitor} (hg : g.record.getD .defaults = c) (hmin : 1 ≤ c.minRate)
    (h : LineMove g u v) (hu : LineRates c u) : LineRates c v := by
  have hconfig {s : State} (hs : s.group = g) : config s = c := by rw [config, hs, hg]
  cases h
  case expect => exact hu
  case marked => exact hu
  case spoiled => exact hu
  case unlit => exact hu
  case lit => unfold lightPeriod; split <;> exact hu
  case received => exact hu
  case badTest => exact hu
  case goodTest => exact hu
  case passed => exact hu
  case farPassed => exact hu
  case served s m _ hs =>
    obtain ⟨h1, h2, h3, h4⟩ := hu.qualify hs
    obtain ⟨hctl, hsw⟩ := hu.not_inService (by simp [hs])
    refine .of_inService rfl ⟨h1, le_rfl, h2, nofun, ⟨?_, ?_⟩, h3, le_rfl, h4⟩
    · simp [enterServiceLine, hctl]
    · exact fun r hr => absurd hr (by rw [show switchOnPair (enterServiceLine m s u) = none from hsw]; nofun)
  case failed s parting far _ _ =>
    obtain ⟨_, hs, _, _, _, _, hctl, hsw, hask⟩ := failLine_fields parting s { u with farParams := far }
    exact .of_idle (.inr (.inl hs)) (by simp [hctl, CtlSlots.empty]) hsw hask
  case ranged s far hs htrain hnone hrange =>
    obtain ⟨hctl, hsw⟩ := hu.not_inService (by simp [htrain])
    obtain ⟨_, hfar, _, send, recv, closing, echo, begun, cab, farm⟩ := hu.train htrain
    have hno : u.train.search = none := by
      cases hsearch : u.train.search with
      | none => rfl
      | some sr => simpa [hnone] using hfar (.inr (by simp [hsearch]))
    rw [hconfig hs] at hrange ⊢
    refine .of_train htrain hctl hsw
      ⟨fun _ => ⟨le_max_left _ _, hrange, min_le_left _ _⟩, fun _ => rfl, ?_, send, recv, closing, echo, begun, cab, farm⟩
    simp [keepRange, SearchWithin, hno]
  case evidenced s hs ht =>
    rw [hconfig hs]
    exact hu.of_trainOnly ht (trainOnly_takeEvidence _ u) (hu.train ht).takeEvidence
  case paramsEnded s hs ht =>
    rw [hconfig hs]
    exact hu.of_trainOnly ht (trainOnly_endParams _ u) (hu.train ht).endParams
  case probed s f hs ht =>
    rw [hconfig hs]
    exact hu.of_trainOnly ht (trainOnly_trainProbe _ f u) ((hu.train ht).trainProbe f)
  case closed s f hs ht =>
    rw [hconfig hs]
    obtain ⟨hctl, hsw⟩ := hu.not_inService (by simp [ht])
    have rates := (hu.train ht).trainClosing f
    obtain ⟨r, tr, h⟩ := trainClosing_only c.role f u
    rw [h] at rates ⊢
    exact .of_train ht hctl hsw rates
  case acked s hs ht =>
    rw [hconfig hs]
    exact hu.of_trainOnly ht (trainOnly_trainAcked _ u) (hu.train ht).trainAcked
  case echoAskCame s now hs ht =>
    rw [hconfig hs]
    exact hu.of_trainOnly ht (trainOnly_trainEchoAsk _ now u) ((hu.train ht).trainEchoAsk now)
  case echoCame now n ht => exact hu.trainEcho ht now n
  case searched clean sr sr' ht hsr hstep =>
    exact hu.of_trainOnly ht ⟨_, rfl⟩ ((hu.train ht).searched hsr hstep)
  case found clean sr rate ht hphase hsr hstep =>
    obtain ⟨hctl, hsw⟩ := hu.not_inService (by simp [ht])
    exact .of_train ht hctl hsw ((hu.train ht).found hmin hphase hsr hstep)
  case windowClosed ht => exact hu.of_trainOnly ht (trainOnly_closeWindow u) (hu.train ht).closeWindow
  case closingRepeated ht =>
    exact hu.of_trainOnly ht ⟨_, rfl⟩
      ((hu.train ht).modTrain (f := fun t => { t with closingPending := true, closingWait := .stopped })
        ⟨rfl, rfl, rfl, rfl⟩ id)
  case targeted s f hs hservice =>
    have hin : inService u = true := by simp [inService, hservice]
    rw [hconfig hs]
    exact .of_inService hin ((hu.service hin).recordTarget f)
  case switched f hin =>
    obtain ⟨h1, h2, h3, ht, hsw, h5, h6, h7⟩ := hu.service hin
    have hpos := (rateField_bounds (bodyWord f.body 0)).1
    have hrecv : 1 ≤ min u.trainedRecv (rateField (bodyWord f.body 0)) := by omega
    unfold endRequest
    split <;> exact .of_inService hin ⟨h1, h2, h3, ht, hsw, hrecv, min_le_left _ _, h7⟩
  case windingDown reason hs =>
    have hin : inService u = true := by simp [inService, hs]
    refine .of_inService ?_ ((hu.service hin).windDownLine reason)
    obtain ⟨ctl, h⟩ := windDownLine_only reason u
    rw [h]
    rfl
  case farLeft => exact hu
  case exited s reason _ _ =>
    obtain ⟨_, hs, _, _, _, _, hctl, hsw, hask⟩ := exitLine_fields reason s u
    exact .of_idle (hs.imp_right .inl) (by simp [hctl, CtlSlots.empty]) hsw hask
  case deferred => exact hu
  case detected s _ hdue =>
    have hs : u.state = .quiet := by
      unfold holdOffDue at hdue
      split at hdue <;> simp_all
    obtain ⟨hctl, hsw⟩ := hu.not_inService (by simp [hs])
    have hask := hu.2.2.1 (by simp [hs])
    unfold enterDetectLine
    dsimp only
    split
    · exact .of_idle (.inr (.inr rfl)) hctl rfl rfl
    · exact .of_idle (.inr (.inr rfl)) hctl hsw hask
  case detectPeriod s _ hs =>
    obtain ⟨hctl, hsw⟩ := hu.not_inService (by simp [hs])
    have hask := hu.2.2.1 (by simp [hs])
    obtain ⟨m, b, i, j, h⟩ := litPeriod_only { u with monitor := .running Config.monitorPeriod }
    unfold Machine.detectPeriod
    rw [h]
    dsimp only
    split
    · refine .of_train rfl hctl hsw ⟨nofun, ?_, nofun, .inl rfl, Nat.zero_le _, nofun, nofun, ?_, nofun, ?_⟩
      · simp [enterTrainLine, TrainRecord.start]
      · have none_begun (w : LineUnit) : echoBegun (enterTrainLine s w) = echoAskOnPair w := rfl
        intro hb
        rw [none_begun] at hb
        exact absurd (hask.symm.trans hb) nofun
      · simp [enterTrainLine, TrainRecord.start]
    · exact .of_idle (.inr (.inr hs)) hctl hsw hask
  case periodBegun => exact hu
  case filtered dark _ =>
    obtain ⟨_, _, _, h⟩ := losFilter_only dark u
    rw [h]
    exact hu
  case losChanged => exact hu
  case windowed threshold errored hs =>
    unfold windowAfter
    dsimp only
    split <;> exact hu
  case checked => exact hu
  case asked => exact hu
  case checkedDown i m reason hs =>
    have hin : inService u = true := by simp [inService, hs]
    refine .of_inService ?_ (ServiceRates.windDownLine (u := checkedLine i m u) (hu.service hin) reason)
    obtain ⟨ctl, h⟩ := windDownLine_only reason (checkedLine i m u)
    rw [h]
    rfl
  case clocked => exact hu
  case txDone =>
    obtain ⟨hservice, hnot, hidle, htrain, hqualify⟩ := hu
    refine ⟨fun hin => ?_, fun hin => ⟨(hnot hin).1, rfl⟩, fun _ => rfl, fun hs => ?_, hqualify⟩
    · obtain ⟨h1, h2, h3, ht, ⟨hpend, -⟩, hrest⟩ := hservice hin
      exact ⟨h1, h2, h3, ht, ⟨hpend, nofun⟩, hrest⟩
    · obtain ⟨range, far, within, send, recv, closing, echo, begun, cab, farm⟩ := htrain hs
      refine ⟨range, far, within, send, recv, closing, echo, fun hb => begun ?_, cab, farm⟩
      simp only [echoBegun, echoAskOnPair, Bool.or_false] at hb
      simp [echoBegun, hb]
  case fragDone f rest hin hq =>
    obtain ⟨b, h⟩ := placeOwnLeave_only { u with queue := rest }
    rw [h]
    exact hu
  case switchDone rate hin hsw =>
    refine .of_inService ?_ ((hu.service hin).rateSwitchLine ?_)
    · obtain ⟨_, _, h⟩ := rateSwitchLine_only rate { u with tx := none }
      rw [h]
      exact hin
    · obtain ⟨_, _, _, _, ⟨-, hpair⟩, _⟩ := hu.service hin
      exact hpair rate hsw
  case askDone =>
    unfold rateAskEnds
    split <;> exact hu
  case echoAskDone now ht hask =>
    obtain ⟨hctl, -⟩ := hu.not_inService (by simp [ht])
    obtain ⟨range, far, within, send, recv, closing, echo, begun, cab, farm⟩ := hu.train ht
    have hb := begun (by simp [echoBegun, hask])
    exact .of_train ht hctl rfl ⟨range, far, within, send, recv, closing, echo, fun _ => hb, cab, farm⟩
  case echoDone ht =>
    obtain ⟨hctl, hsw⟩ := hu.not_inService (by simp [ht])
    have rates : TrainRates c { u with train := { u.train with echoSent := true } } :=
      (hu.train ht).modTrain (f := fun t => { t with echoSent := true }) ⟨rfl, rfl, rfl, rfl⟩ id
    exact .tryQualify rates ht hctl hsw
  case closingDone ht =>
    unfold closingProbeEnds
    split
    · exact hu.of_trainOnly ht ⟨_, rfl⟩
        ((hu.train ht).modTrain (f := fun t => { t with closingWait := .running Config.closingWait })
          ⟨rfl, rfl, rfl, rfl⟩ id)
    · exact hu
  case leaveDone => exact hu
  case chosen s _ htx => exact chooseLine_rates hu htx s
  case conflicted =>
    obtain ⟨_, hs, _, _, _, _, _, hctl, hsw, hask⟩ := conflictLine_fields u
    exact .of_idle (.inl hs) (by simp [hctl, CtlSlots.empty]) hsw hask

end

end Sys2Proof.Machine

namespace Sys2Proof.Machine

/-! ## What a command of the bus leaves as it was

The commands of the bus port, the release controller and the status unit move neither line units nor modes. `BusFrame` says
what such a command leaves alone, and is shown operation by operation. -/

/-- What the commands of the bus leave as it was: the line units, the mode, the number, the record, CHAIN_OUT, NS, the time
base and the commands that wait. -/
structure BusFrame (s t : State) : Prop where
  lines : t.lines = s.lines
  mode : t.group.mode = s.group.mode
  number : t.group.number = s.group.number
  record : t.group.record = s.group.record
  defaults : t.group.defaultsInUse = s.group.defaultsInUse
  chainOut : t.group.chainOut = s.group.chainOut
  ns : t.sequencer.ns = s.sequencer.ns
  timeBase : t.timeBase = s.timeBase
  pending : t.pending = s.pending

@[simp] theorem closeNoClaim_ns (s : State) : (closeNoClaim s).sequencer.ns = s.sequencer.ns := by
  simp only [closeNoClaim]
  split <;> simp [slotClosed, sequencerIdle]

@[simp] theorem closeByOther_ns (s : State) : (closeByOther s).sequencer.ns = s.sequencer.ns := by
  unfold closeByOther
  split <;> simp

namespace BusFrame

variable {s t v : State}

theorem of_group (hg : t.group = s.group) (hl : t.lines = s.lines) (hn : t.sequencer.ns = s.sequencer.ns)
    (ht : t.timeBase = s.timeBase) (hp : t.pending = s.pending) : BusFrame s t := by
  constructor <;> simp [*]

theorem refl (s : State) : BusFrame s s := of_group rfl rfl rfl rfl rfl

theorem trans (h : BusFrame s t) (h' : BusFrame t v) : BusFrame s v where
  lines := h'.lines.trans h.lines
  mode := h'.mode.trans h.mode
  number := h'.number.trans h.number
  record := h'.record.trans h.record
  defaults := h'.defaults.trans h.defaults
  chainOut := h'.chainOut.trans h.chainOut
  ns := h'.ns.trans h.ns
  timeBase := h'.timeBase.trans h.timeBase
  pending := h'.pending.trans h.pending

theorem ite {c : Prop} [Decidable c] {a b : State} (ha : c → BusFrame s a) (hb : ¬c → BusFrame s b) :
    BusFrame s (if c then a else b) := by
  split
  · exact ha ‹_›
  · exact hb ‹_›

theorem closeNoClaim (s : State) : BusFrame s (closeNoClaim s) := of_group (by simp) (by simp) (by simp) (by simp) (by simp)

theorem closeByOther (s : State) : BusFrame s (closeByOther s) := of_group (by simp) (by simp) (by simp) (by simp) (by simp)

theorem ended (s : State) : BusFrame s (Machine.closeByOther (blockEnded s)) :=
  (of_group (s := s) (t := blockEnded s) rfl rfl rfl rfl rfl).trans (closeByOther (blockEnded s))

theorem observe {k : SlotKind} {o : Observed} {own : Bool} {blk : BusBlock} (h : observe k o s = some (own, blk, t)) :
    BusFrame s t := by
  obtain ⟨_, _, x, _, _, _, rfl⟩ | ⟨_, _, _, rfl⟩ | ⟨_, _, _, rfl⟩ := observe_cases h
  · exact of_group rfl rfl rfl rfl rfl
  · exact of_group rfl rfl rfl rfl rfl
  · exact ended s

theorem moveE (s : State) : BusFrame s (moveE s) := of_group (by simp) (by simp) (by simp) (by simp) (by simp)

theorem moved {q : Seq} {b : Bool} (s : State) : BusFrame s (Machine.moveE (setE q b s)) :=
  (of_group (s := s) (t := setE q b s) rfl rfl rfl rfl rfl).trans (moveE (setE q b s))

theorem joinE (q : Seq) (s : State) : BusFrame s (joinE q s) := { refl s with }

theorem attemptFailed (x : OnLine) (s : State) : BusFrame s (attemptFailed x s) :=
  of_group (by simp) (by simp) (by simp) (by simp) (by simp)

theorem placeReply (item : Byte) (blk : BusBlock) (contents : Option (List Byte)) (s : State) :
    BusFrame s (placeReply item blk contents s) := by
  unfold Machine.placeReply
  split <;> exact of_group rfl rfl rfl rfl rfl

theorem answerQuery (item : Byte) (blk : BusBlock) (contents : State → Option (List Byte)) (s : State) :
    BusFrame s (answerQuery item blk contents s) :=
  .ite (fun _ => (ended s).trans (placeReply item blk _ _)) fun _ => ended s

theorem setFreeze (flag : Bool) (item : Byte) (blk : BusBlock) (s : State) : BusFrame s (setFreeze flag item blk s) := by
  have flagged (t : State) : BusFrame t { t with status.frozen := flag } := of_group rfl rfl rfl rfl rfl
  exact .ite (fun _ => ((ended s).trans (flagged _)).trans (placeReply item blk _ _)) fun _ => ended s

theorem applyHoldOn (s : State) : BusFrame s (applyHoldOn s) := by
  unfold Machine.applyHoldOn
  split <;> exact of_group (by simp) (by simp) (by simp) (by simp) (by simp)

theorem applyHoldOff (s : State) : BusFrame s (applyHoldOff s) := by
  unfold Machine.applyHoldOff
  split <;> exact of_group (by simp) (by simp) (by simp) (by simp) (by simp)

theorem placeSkip (s : State) : BusFrame s (placeSkip s) := of_group (by simp) (by simp) (by simp) (by simp) (by simp)

theorem latchOffer (o : LatchedOffer) (s : State) : BusFrame s (latchOffer o s) := of_group rfl rfl rfl rfl rfl

theorem judgeOffer (o : LatchedOffer) (s : State) : BusFrame s (judgeOffer o s) := by
  have judged (phase : ClaimPhase) (v : OfferVerdict) (b : Option Bidding) (t : State) :
      BusFrame t (setJudged phase v b t) := of_group rfl rfl rfl rfl rfl
  unfold Machine.judgeOffer
  split
  · refine .ite (fun _ => ?_) fun _ => judged _ _ _ s
    unfold judgeActive
    dsimp only
    split
    · exact .trans (t := placeBlock _ _ s) (of_group rfl rfl rfl rfl rfl) (judged _ _ _ _)
    · exact judged _ _ _ s
  · exact .trans (t := countStation _ s) (of_group rfl rfl rfl rfl rfl) (judged _ _ _ _)

theorem intervalPeer (s : State) (k : StationNo) : BusFrame s (intervalPeer s k) := by
  unfold Machine.intervalPeer
  refine .ite (fun _ => refl s) fun _ => .ite (fun _ => ?_) fun _ => { refl s with }
  constructor <;> simp

theorem presenceUpdate (s : State) : BusFrame s (presenceUpdate s) := by
  have all (l : List StationNo) (s : State) : BusFrame s (l.foldl Machine.intervalPeer s) := by
    induction l generalizing s with
    | nil => exact refl s
    | cons k l ih => exact (intervalPeer s k).trans (ih _)
  exact all allStations s

theorem evidenceSkip (s : State) : BusFrame s (evidenceSkip s) :=
  of_group (by simp) (by simp) (by simp) (by simp) (by simp)

end BusFrame

/-- The commands at which a line unit, a mode, the record or NS may change, besides those of a pair: the resets, the way into
LISTENING, its end, MARK and CLAIM. -/
def movesStation : Instr → Bool
  | .pinReset => true
  | .chainInAsserted => true
  | .startRecordRead _ _ => true
  | .startMemoryTimeout => true
  | .busReset => true
  | .listeningPeriodEnd => true
  | .mark _ => true
  | .claim _ => true
  | _ => false

theorem releaseActive_frame (own : Bool) (blk : BusBlock) (s : State) : BusFrame s (releaseActive own blk s) := by
  cases own <;> exact .of_group (by simp [releaseActive]) (by simp [releaseActive]) (by simp [releaseActive])
    (by simp [releaseActive]) (by simp [releaseActive])

theorem skipActive_frame (own : Bool) (blk : BusBlock) (s : State) : BusFrame s (skipActive own blk s) := by
  cases own <;> exact .of_group (by simp [skipActive]) (by simp [skipActive]) (by simp [skipActive])
    (by simp [skipActive]) (by simp [skipActive])

theorem rebaseActive_frame (own : Bool) (blk : BusBlock) (s : State) : BusFrame s (rebaseActive own blk s) := by
  cases own <;> exact .of_group (by simp [rebaseActive]) (by simp [rebaseActive]) (by simp [rebaseActive])
    (by simp [rebaseActive]) (by simp [rebaseActive])

/-- A command of the bus leaves the line units, the mode, the record and NS as they were. -/
theorem exec_busFrame {c : Instr} {s t : State} (hp : pairOf c = none) (hc : movesStation c = false)
    (h : exec c s = .next t) : BusFrame s t := by
  cases c <;> first | (cases hp; done) | (cases hc; done) | obtain rfl := Host.Outcome.next.inj h
  case busRelease => exact .ite (fun _ => { BusFrame.refl s with }) fun _ => .refl s
  case busIdleContend others =>
    refine .ite (fun _ => .refl s) fun _ => ?_
    split
    · exact .of_group rfl rfl rfl rfl rfl
    · exact .ite (fun _ => .of_group rfl rfl rfl rfl rfl) fun _ => .of_group rfl rfl rfl rfl rfl
  case sendAbort =>
    split
    · exact .refl s
    next x _ =>
      have counted : BusFrame s
          (countStation (fun c => { c with sendAborts := satInc c.sendAborts, badBlocks := satInc c.badBlocks })
            { s with port := { s.port with onLine := none, receiveBuffer := none, idleWait := 8 } }) :=
        .of_group rfl rfl rfl rfl rfl
      exact .ite (fun _ => .ite (fun _ => counted.trans (.closeNoClaim _)) fun _ => counted) fun _ =>
        counted.trans (.attemptFailed x _)
  case badBlock cause =>
    refine .trans ?_ (.closeByOther _)
    exact .of_group rfl rfl rfl rfl rfl
  case claimSlotTimeout => exact .ite (fun _ => .closeNoClaim s) fun _ => .refl s
  case offer blk =>
    have seen : BusFrame s (countStation (fun c => { c with offersSeen := c.offersSeen + 1 }) (blockEnded s)) :=
      .of_group rfl rfl rfl rfl rfl
    refine .ite (fun _ => .ended s) fun _ => .ite (fun _ => seen.trans (.of_group rfl rfl rfl rfl rfl)) fun _ => ?_
    refine .trans (.trans ?_ (.latchOffer _ _)) (.judgeOffer _ _)
    exact .ite (fun _ => seen.trans (.closeNoClaim _)) fun _ => seen
  case release o =>
    split
    · exact .refl s
    next own blk s' hobs =>
      have seen := BusFrame.observe hobs
      refine .ite (fun _ => seen) fun _ => ?_
      split
      · exact seen.trans (releaseActive_frame own blk s')
      · exact seen.trans (.joinE _ s')
      · exact seen
  case skip o =>
    split
    · exact .refl s
    next own blk s' hobs =>
      have seen := BusFrame.observe hobs
      refine .ite (fun _ => seen) fun _ => ?_
      split
      · exact seen.trans (skipActive_frame own blk s')
      · exact seen.trans (.joinE _ s')
      · exact seen
  case rebase o =>
    split
    · exact .refl s
    next own blk s' hobs =>
      have seen := BusFrame.observe hobs
      refine .ite (fun _ => seen) fun _ => ?_
      split
      · exact seen.trans (rebaseActive_frame own blk s')
      · exact seen.trans (.joinE _ s')
      · exact seen
  case holdOn blk => exact .ite (fun _ => (BusFrame.ended s).trans (.applyHoldOn _)) fun _ => .ended s
  case holdOff blk => exact .ite (fun _ => (BusFrame.ended s).trans (.applyHoldOff _)) fun _ => .ended s
  case replyObserved o =>
    split
    · exact .refl s
    next hobs => exact .observe hobs
  case identity blk => exact .answerQuery _ blk _ s
  case station blk => exact .answerQuery _ blk _ s
  case pair blk => exact .answerQuery _ blk _ s
  case counters blk => exact .answerQuery _ blk _ s
  case snapshot blk =>
    exact .ite (fun _ => (BusFrame.ended s).trans (.of_group rfl rfl rfl rfl rfl)) fun _ => .ended s
  case events blk => exact .answerQuery _ blk _ s
  case ringFreeze blk => exact .setFreeze true _ blk s
  case ringThaw blk => exact .setFreeze false _ blk s
  case unknownItem blk => exact .answerQuery _ blk _ s
  case beaconExpiry =>
    split
    · exact .refl s
    next k _ =>
      refine .ite (fun _ => ?_) fun _ => .refl s
      have marked : BusFrame s
          { placeBlock .mark (markBlock k s) s with group.beacon := .running Config.beaconPeriod } :=
        { BusFrame.refl s with }
      have updated := marked.trans (.presenceUpdate _)
      exact .ite (fun _ => updated.trans (.evidenceSkip _)) fun _ => updated
  case skipTimerExpiry =>
    split
    · refine .trans ?_ (.placeSkip _)
      exact .of_group rfl rfl rfl rfl rfl
    · exact .refl s
  case holdLimitExpiry =>
    refine .ite (fun _ => .trans ?_ (.applyHoldOff _)) fun _ => .refl s
    exact .of_group rfl rfl rfl rfl rfl

end Sys2Proof.Machine

namespace Sys2Proof.Machine

/-! ### The snapshot (R166, R170, R178) -/

/-- The snapshot values, their tag and their stamp. -/
def snapOf (s : State) : CounterSet × Option Byte × Option Stamp :=
  (s.status.snap, s.status.snapTag, s.status.snapStamp)

section
variable (s : State)

theorem snapOf_congr {s t : State} (h : t.status = s.status) : snapOf t = snapOf s := by simp only [snapOf, h]

@[simp] theorem snapOf_countStation (f : StationCounters → StationCounters) : snapOf (countStation f s) = snapOf s := rfl
@[simp] theorem snapOf_recordEvent (k : EventKind) (a b : Nat) : snapOf (recordEvent k a b s) = snapOf s := by
  obtain ⟨h1, h2, h3⟩ := recordEvent_snap k a b s
  simp only [snapOf, h1, h2, h3]
@[simp] theorem snapOf_placeBlock (k : SlotKind) (blk : BusBlock) : snapOf (placeBlock k blk s) = snapOf s := rfl
@[simp] theorem snapOf_placeSkip : snapOf (placeSkip s) = snapOf s := snapOf_congr (by simp)
@[simp] theorem snapOf_evidenceSkip : snapOf (evidenceSkip s) = snapOf s := snapOf_congr (by simp)
@[simp] theorem snapOf_tryRelease : snapOf (tryRelease s) = snapOf s := snapOf_congr (by simp)

@[simp] theorem snapOf_purge : snapOf (purge s) = snapOf s := by
  unfold purge
  split <;> rfl

@[simp] theorem snapOf_closeNoClaim : snapOf (closeNoClaim s) = snapOf s := by
  unfold closeNoClaim countLost
  dsimp only
  (repeat' split) <;> rfl

@[simp] theorem snapOf_closeByOther : snapOf (closeByOther s) = snapOf s := by
  unfold closeByOther
  split
  · exact snapOf_closeNoClaim s
  · rfl

@[simp] theorem snapOf_blockEnded : snapOf (blockEnded s) = snapOf s := rfl

@[simp] theorem snapOf_countEAdoption (q : Seq) : snapOf (countEAdoption q s) = snapOf s := by
  unfold countEAdoption
  split <;> rfl

@[simp] theorem snapOf_moveE : snapOf (moveE s) = snapOf s := by
  unfold moveE
  dsimp only
  rw [snapOf_evidenceSkip, snapOf_tryRelease]
  exact snapOf_purge s

@[simp] theorem snapOf_setE (q : Seq) (b : Bool) : snapOf (setE q b s) = snapOf s := rfl
@[simp] theorem snapOf_joinE (q : Seq) : snapOf (joinE q s) = snapOf s := rfl

theorem snapOf_observe {k : SlotKind} {o : Observed} {own : Bool} {blk : BusBlock} {s t : State}
    (h : observe k o s = some (own, blk, t)) : snapOf t = snapOf s := by
  obtain ⟨_, _, x, _, _, _, rfl⟩ | ⟨_, _, _, rfl⟩ | ⟨_, _, _, rfl⟩ := observe_cases h
  · rfl
  · rfl
  · simp

@[simp] theorem snapOf_attemptFailed (x : OnLine) : snapOf (attemptFailed x s) = snapOf s := by
  have dropped : snapOf (blockDropped x s) = snapOf s := by
    unfold blockDropped
    dsimp only
    split
    · exact (snapOf_congr (releaseDropped_status x.block _)).trans (snapOf_countStation s _)
    · exact (snapOf_congr (skipDropped_status _)).trans (snapOf_countStation s _)
    · exact snapOf_countStation s _
  unfold attemptFailed
  split
  · rfl
  · split
    · split <;> simp
    · split
      · exact dropped
      · rfl

@[simp] theorem snapOf_placeReply (item : Byte) (blk : BusBlock) (c : Option (List Byte)) :
    snapOf (placeReply item blk c s) = snapOf s := by
  unfold placeReply
  split <;> rfl

@[simp] theorem snapOf_answerQuery (item : Byte) (blk : BusBlock) (c : State → Option (List Byte)) :
    snapOf (answerQuery item blk c s) = snapOf s := by
  unfold answerQuery
  dsimp only
  split <;> simp

@[simp] theorem snapOf_setFreeze (flag : Bool) (item : Byte) (blk : BusBlock) :
    snapOf (setFreeze flag item blk s) = snapOf s := by
  unfold setFreeze
  dsimp only
  split
  · rw [snapOf_placeReply]
    exact snapOf_closeByOther (blockEnded s)
  · simp

@[simp] theorem snapOf_applyHoldOn : snapOf (applyHoldOn s) = snapOf s := by
  unfold applyHoldOn
  dsimp only
  split <;> rfl

@[simp] theorem snapOf_applyHoldOff : snapOf (applyHoldOff s) = snapOf s := by
  unfold applyHoldOff
  dsimp only
  split
  · exact snapOf_congr (holdTurnsOff_status _)
  · rfl

@[simp] theorem snapOf_judgeOffer (o : LatchedOffer) : snapOf (judgeOffer o s) = snapOf s := by
  unfold judgeOffer judgeActive
  dsimp only
  (repeat' split) <;> rfl

@[simp] theorem snapOf_presenceUpdate : snapOf (presenceUpdate s) = snapOf s := by
  have all (l : List StationNo) (s : State) : snapOf (l.foldl intervalPeer s) = snapOf s := by
    induction l generalizing s with
    | nil => rfl
    | cons k l ih =>
      rw [List.foldl_cons, ih]
      unfold intervalPeer
      dsimp only
      split
      · rfl
      · split
        · rw [snapOf_recordEvent]
          rfl
        · rfl
  exact all allStations s

end

/-! ### The commands that move the station, case by case -/

/-- R28, R22, R32: what a MARK comes to. -/
theorem exec_mark_cases {o : Observed} {s t : State} (h : exec (.mark o) s = .next t) :
    t = s ∨ ∃ own blk s', observe .mark o s = some (own, blk, s') ∧
      (t = s' ∨
        (∃ k, s'.group.number = some k ∧ (s'.group.mode = .listening ∨ s'.group.mode = .active) ∧ t = enterConflict s') ∨
        (∃ k, s'.group.mode = .listening ∧ t = joinMark k blk s') ∨
        ∃ k, s'.group.mode = .active ∧ s'.group.number ≠ some k ∧ t = markHeard k blk s') := by
  obtain rfl := Host.Outcome.next.inj h
  split
  · exact .inl rfl
  next own blk s' hobs =>
    refine .inr ⟨own, blk, s', hobs, ?_⟩
    split
    · exact .inl rfl
    · split
      · exact .inl rfl
      next k _ =>
        split
        next hm =>
          split
          next hk => exact .inr (.inl ⟨k, hk, .inl hm, rfl⟩)
          · exact .inr (.inr (.inl ⟨k, hm, rfl⟩))
        next hm =>
          split
          next hk => exact .inr (.inl ⟨k, hk, .inr hm, rfl⟩)
          next hk => exact .inr (.inr (.inr ⟨k, hm, hk, rfl⟩))
        · exact .inl rfl

theorem BusFrame.joinMark (k : StationNo) (blk : BusBlock) (s : State) : BusFrame s (joinMark k blk s) :=
  { BusFrame.refl s with }

theorem BusFrame.markHeard (k : StationNo) (blk : BusBlock) (s : State) : BusFrame s (markHeard k blk s) := by
  have tabled (table : PerStation PeerEntry) : BusFrame s { s with group.table := table } := { BusFrame.refl s with }
  have event (t : State) : BusFrame t (recordEvent .peerPresent (stationIndex k) 0 t) :=
    .of_group (by simp) (by simp) (by simp) (by simp) (by simp)
  unfold Machine.markHeard
  dsimp only
  generalize (!(stationGet s.group.table k).present &&
    decide (3 ≤ (heardEntry blk (stationGet s.group.table k)).heard)) = appears
  cases appears
  · exact .ite (fun _ => (tabled _).trans (.evidenceSkip _)) fun _ => tabled _
  · exact ((tabled _).trans (event _)).trans (.evidenceSkip _)

end Sys2Proof.Machine

namespace Sys2Proof.Machine

/-! ### E (R144, R145) -/

section
variable (s : State)

@[simp] theorem withdrawBlock_e (k : SlotKind) : (withdrawBlock k s).release.e = s.release.e := rfl

@[simp] theorem moveE_e : (moveE s).release.e = s.release.e := by
  simp [moveE]

@[simp] theorem holdTurnsOn_e : (holdTurnsOn s).release.e = s.release.e := by simp [holdTurnsOn]

@[simp] theorem holdTurnsOff_e : (holdTurnsOff s).release.e = s.release.e := by
  simp only [holdTurnsOff, evidenceSkip_release]
  split <;> simp

@[simp] theorem skipTimerAtArrival_e (b : Bool) : (skipTimerAtArrival b s).release.e = s.release.e := by
  unfold skipTimerAtArrival
  (repeat' split) <;> rfl

@[simp] theorem holdArrival_e (x : HoldEntry) : (holdArrival x s).release.e = s.release.e := by
  unfold holdArrival
  split <;> simp

@[simp] theorem releaseDropped_e (blk : BusBlock) : (releaseDropped blk s).release.e = s.release.e := by
  rw [releaseDropped_release]
  split <;> rfl

@[simp] theorem skipDropped_e : (skipDropped s).release.e = s.release.e := by
  rw [skipDropped_release]
  split <;> rfl

@[simp] theorem blockDropped_e (x : OnLine) : (blockDropped x s).release.e = s.release.e := by
  unfold blockDropped
  split <;> simp

@[simp] theorem attemptFailed_e (x : OnLine) : (attemptFailed x s).release.e = s.release.e := by
  unfold attemptFailed
  (repeat' split) <;> simp

@[simp] theorem applyHoldOn_e : (applyHoldOn s).release.e = s.release.e := by
  unfold applyHoldOn
  dsimp only
  split <;> simp

@[simp] theorem applyHoldOff_e : (applyHoldOff s).release.e = s.release.e := by
  unfold applyHoldOff
  dsimp only
  split <;> simp

@[simp] theorem placeReply_release (item : Byte) (blk : BusBlock) (c : Option (List Byte)) :
    (placeReply item blk c s).release = s.release := by
  unfold placeReply
  split <;> rfl

@[simp] theorem answerQuery_release (item : Byte) (blk : BusBlock) (c : State → Option (List Byte)) :
    (answerQuery item blk c s).release = s.release := by
  unfold answerQuery
  dsimp only
  split <;> simp

@[simp] theorem setFreeze_release (flag : Bool) (item : Byte) (blk : BusBlock) :
    (setFreeze flag item blk s).release = s.release := by
  unfold setFreeze
  dsimp only
  split <;> simp

@[simp] theorem judgeOffer_release (o : LatchedOffer) : (judgeOffer o s).release = s.release := by
  unfold judgeOffer judgeActive
  dsimp only
  (repeat' split) <;> rfl

@[simp] theorem presenceUpdate_release : (presenceUpdate s).release = s.release := by
  have all (l : List StationNo) (s : State) : (l.foldl intervalPeer s).release = s.release := by
    induction l generalizing s with
    | nil => rfl
    | cons k l ih =>
      rw [List.foldl_cons, ih]
      unfold intervalPeer
      dsimp only
      (repeat' split) <;> simp
  exact all allStations s

@[simp] theorem conflictPair_release (p : Pair) : (conflictPair p s).release = s.release := by
  unfold conflictPair
  dsimp only
  (repeat' split) <;> simp

@[simp] theorem conflictPair_group (p : Pair) : (conflictPair p s).group = s.group := by
  unfold conflictPair
  dsimp only
  (repeat' split) <;> simp

@[simp] theorem conflictPair_sequencer (p : Pair) : (conflictPair p s).sequencer = s.sequencer := by
  unfold conflictPair
  dsimp only
  (repeat' split) <;> simp

@[simp] theorem conflictPair_holdQueue (p : Pair) : (conflictPair p s).holdQueue = s.holdQueue := by
  unfold conflictPair
  dsimp only
  (repeat' split) <;> simp

@[simp] theorem conflictPair_timeBase (p : Pair) : (conflictPair p s).timeBase = s.timeBase := by
  unfold conflictPair
  dsimp only
  (repeat' split) <;> simp

@[simp] theorem conflictPair_pending (p : Pair) : (conflictPair p s).pending = s.pending := by
  unfold conflictPair
  dsimp only
  (repeat' split) <;> simp

end

/-- A pair at the entry to CONFLICT is a step of that pair. -/
theorem PairStep.conflictPair (p : Pair) (s : State) : PairStep p s (conflictPair p s) := by
  unfold Machine.conflictPair
  exact .ite (fun h => .ite (fun _ => .modLine (.deferred _ _)) fun _ => .exitPair h) fun h =>
    .setLine (.conflicted _ (by simpa using h))

/-- R33: CONFLICT before the pairs are taken: nothing pending, HOLD off, nothing held, the timers stopped. -/
def conflictBegun (s : State) : State :=
  { emptySlots s with
    group := { s.group with mode := .conflict, beacon := .stopped, listening := .none, join := .empty }
    holdQueue := .reset
    release := { s.release with hold := false, holdTimer := .stopped, skipTimer := .stopped } }

theorem enterConflict_eq (s : State) :
    enterConflict s = conflictPair .d (conflictPair .c (conflictPair .b (conflictPair .a (conflictBegun s)))) := rfl

theorem isActive_conflictBegun (s : State) : isActive (conflictBegun s) = false := rfl

section
variable (s : State)

@[simp] theorem enterConflict_group : (enterConflict s).group =
    { s.group with mode := .conflict, beacon := .stopped, listening := .none, join := .empty } := by
  simp [enterConflict_eq, conflictBegun]

@[simp] theorem enterConflict_sequencer : (enterConflict s).sequencer = s.sequencer := by
  simp [enterConflict_eq, conflictBegun]

@[simp] theorem enterConflict_holdQueue : (enterConflict s).holdQueue = .reset := by
  simp [enterConflict_eq, conflictBegun]

@[simp] theorem enterConflict_release : (enterConflict s).release =
    { s.release with hold := false, holdTimer := .stopped, skipTimer := .stopped } := by
  simp [enterConflict_eq, conflictBegun]

@[simp] theorem enterConflict_timeBase : (enterConflict s).timeBase = s.timeBase := by
  simp [enterConflict_eq, conflictBegun]

@[simp] theorem enterConflict_pending : (enterConflict s).pending = s.pending := by
  simp [enterConflict_eq, conflictBegun]

theorem enterConflict_port : (enterConflict s).port = (emptySlots s).port := by
  have quiet (p : Pair) (t : State) (h : isActive t = false) : (conflictPair p t).port = t.port := by
    obtain h' | ⟨ha, _⟩ := (PairStep.conflictPair p t).port
    · exact h'
    · simp [h] at ha
  have active (p : Pair) (t : State) : isActive (conflictPair p t) = isActive t := by simp [isActive]
  have begun := isActive_conflictBegun s
  rw [enterConflict_eq, quiet, quiet, quiet, quiet]
  · rfl
  all_goals simpa only [active] using begun

@[simp] theorem snapOf_enterConflict : snapOf (enterConflict s) = snapOf s := by
  have pair (p : Pair) (t : State) : snapOf (conflictPair p t) = snapOf t := by
    obtain ⟨h1, h2, h3⟩ := (PairStep.conflictPair p t).snap
    simp only [snapOf, h1, h2, h3]
  simp only [enterConflict_eq, pair]
  rfl

/-- R33: the line unit of a pair at the entry to CONFLICT makes the moves of that pair's entry alone. -/
theorem enterConflict_moves (p : Pair) : LineMoves (conflictBegun s).group (line s p) (line (enterConflict s) p) := by
  have pair (r p : Pair) (t : State) (hg : t.group = (conflictBegun s).group) :
      LineMoves (conflictBegun s).group (line t p) (line (conflictPair r t) p) := by
    by_cases h : p = r
    · subst h
      exact hg ▸ (PairStep.conflictPair p t).moves
    · rw [(PairStep.conflictPair r t).others p h]
  rw [enterConflict_eq, show line s p = line (conflictBegun s) p from rfl]
  refine .trans (.trans (.trans (pair .a p _ rfl) (pair .b p _ ?_)) (pair .c p _ ?_)) (pair .d p _ ?_) <;> simp

end

/-! ### FRAG (R128 to R133) -/

/-- A FRAG is a step of its pair, which an ACTIVE station may follow with the arrival at the hold queue. -/
theorem exec_frag_cases {p : Pair} {f : Frame} {s t : State} (h : exec (.frag p f) s = .next t) :
    PairStep p s t ∨
      ∃ s', PairStep p s s' ∧ isActive s' = true ∧ t = holdArrival (fragEntry p f s'.timeBase) s' := by
  obtain rfl := Host.Outcome.next.inj h
  have counted := PairStep.checkCount p f s
  unfold receive
  obtain ⟨_, h⟩ | ⟨_, _, h⟩ | ⟨_, _, h⟩ := receiveCounted_cases p f
    (fun t => if frameSizeOk .frag f then actFrag p f t else badFrame p t) s <;> rw [h]
  · exact .inl (.refl p s)
  · exact .inl counted
  · split
    · unfold actFrag
      split
      next hin =>
        split
        next ha =>
          refine .inr ⟨_, counted.trans (.fragReceived (f := f) hin), ?_, by simp⟩
          simpa [isActive] using ha
        · exact .inl counted
      · exact .inl (counted.trans (.countStation p _ _))
    · exact .inl (counted.trans (.badFrame p _))

/-! ### CLAIM (R43 to R47, R50) -/

/-- R43 to R47: what a CLAIM comes to: an observation, after which NS or the join NS moves and an open slot closes, for an own
CLAIM with the fragment handed over. -/
theorem exec_claim_cases {o : Observed} {s t : State} (h : exec (.claim o) s = .next t) :
    t = s ∨ ∃ own blk s', observe .claim o s = some (own, blk, s') ∧
      (t = closeByOther s' ∨
        ∃ q, t = claimNs own q s' ∨
          (own = true ∧ s'.port.slotOpen = true ∧ t = closeWon (pairOfBits blk.pair) q (claimNs own q s')) ∨
          (own = false ∧ s'.port.slotOpen = true ∧ ownOnLine s'.port .claim = false ∧
            t = closeClaimed (claimNs own q s'))) := by
  have port (own : Bool) (q : Seq) (s' : State) : (claimNs own q s').port = s'.port := by
    have adopted (s : State) : (adoptNs q s).port = s.port := by
      unfold adoptNs
      dsimp only
      split <;> rfl
    unfold claimNs
    split
    · exact adopted s'
    · split
      · exact adopted s'
      · rfl
    · rfl
    · rfl
  obtain rfl := Host.Outcome.next.inj h
  split
  · exact .inl rfl
  next own blk s' hobs =>
    refine .inr ⟨own, blk, s', hobs, ?_⟩
    dsimp only
    split
    · exact .inl rfl
    · refine .inr ⟨bodySeq blk.body 0, ?_⟩
      rw [port]
      split
      · exact .inl rfl
      next hopen =>
        split
        next hown => exact .inr (.inl ⟨hown, by simpa using hopen, rfl⟩)
        next hown =>
          split
          · exact .inl rfl
          next hline => exact .inr (.inr ⟨by simpa using hown, by simpa using hopen, by simpa using hline, rfl⟩)

/-! ### The commands of the bus port and OFFER, case by case -/

/-- R6, R10: the station after its block has been aborted, both counts made. -/
def aborted (s : State) : State :=
  countStation (fun c => { c with sendAborts := satInc c.sendAborts, badBlocks := satInc c.badBlocks })
    { s with port := { s.port with onLine := none, receiveBuffer := none, idleWait := 8 } }

/-- R10, R11, R14: what a SEND_ABORT comes to. -/
theorem exec_sendAbort_cases {s t : State} (h : exec .sendAbort s = .next t) :
    t = s ∨ ∃ x, s.port.onLine = some x ∧
      ((x.kind = .claim ∧ (s.port.slotOpen = true ∧ t = closeNoClaim (aborted s) ∨ s.port.slotOpen = false ∧ t = aborted s)) ∨
        (x.kind ≠ .claim ∧ t = attemptFailed x (aborted s))) := by
  obtain rfl := Host.Outcome.next.inj h
  split
  · exact .inl rfl
  next x hx =>
    refine .inr ⟨x, hx, ?_⟩
    dsimp only
    split
    next hk =>
      refine .inl ⟨hk, ?_⟩
      split
      next ho => exact .inl ⟨ho, rfl⟩
      next ho => exact .inr ⟨by simpa using ho, rfl⟩
    next hk => exact .inr ⟨hk, rfl⟩

/-- R4, R5, R9, R13, R14: what a contention at the idle bus does to the bus port. -/
theorem exec_busIdleContend_cases {others : List ArbField} {s t : State} (h : exec (.busIdleContend others) s = .next t) :
    t = s ∨ (lineTaken s.port = false ∧ ∃ buffer,
      (t = { s with port := { s.port with receiveBuffer := buffer } } ∨
        ∃ k x, contender s = some (k, x) ∧
          (t = { s with
              port := { setSlot s.port k none with onLine := some ⟨k, x.block, x.fails, true⟩, receiveBuffer := buffer } } ∨
            (k = .claim ∧ t = { s with port := { setSlot s.port .claim none with receiveBuffer := buffer } })))) := by
  obtain rfl := Host.Outcome.next.inj h
  split
  · exact .inl rfl
  next hfree =>
    refine .inr ⟨by simpa using hfree, ?_⟩
    split
    · exact ⟨_, .inl rfl⟩
    next k x hc =>
      dsimp only
      split
      · exact ⟨_, .inr ⟨k, x, hc, .inl rfl⟩⟩
      · split
        next hk => exact ⟨_, .inr ⟨k, x, hc, .inr ⟨hk, rfl⟩⟩⟩
        · exact ⟨_, .inl rfl⟩

/-- R12, R13, R37: what an OFFER comes to. -/
theorem exec_offer_cases {blk : BusBlock} {s t : State} (h : exec (.offer blk) s = .next t) :
    t = closeByOther (blockEnded s) ∨ (∃ f g, t = countStation f (countStation g (blockEnded s))) ∨
      ∃ f o, (s.port.slotOpen = true ∧
          t = judgeOffer o (latchOffer o (closeNoClaim (countStation f (blockEnded s)))) ∨
        s.port.slotOpen = false ∧ t = judgeOffer o (latchOffer o (countStation f (blockEnded s)))) := by
  obtain rfl := Host.Outcome.next.inj h
  dsimp only
  split
  · exact .inl rfl
  · split
    · exact .inr (.inl ⟨_, _, rfl⟩)
    · refine .inr (.inr ⟨fun c => { c with offersSeen := c.offersSeen + 1 }, offerOfBody blk.body, ?_⟩)
      split
      next ho => exact .inl ⟨ho, rfl⟩
      next ho => exact .inr ⟨by simpa [blockEnded] using ho, rfl⟩

/-- R146 to R148, R22: what an observed RELEASE, SKIP or REBASE comes to, by the mode. -/
theorem exec_moving_cases {c : Instr} {o : Observed} {s t : State}
    (hc : c = .release o ∨ c = .skip o ∨ c = .rebase o) (h : exec c s = .next t) :
    t = s ∨ ∃ k own blk s', observe k o s = some (own, blk, s') ∧ k ≠ .claim ∧
      (t = s' ∨ (s'.group.mode = .listening ∧ t = joinE (valueSeq blk.value) s') ∨
        (s'.group.mode = .active ∧
          (t = releaseActive own blk s' ∨ t = skipActive own blk s' ∨ t = rebaseActive own blk s'))) := by
  obtain rfl | rfl | rfl := hc <;> obtain rfl := Host.Outcome.next.inj h
  all_goals
    split
    · exact .inl rfl
    next own blk s' hobs =>
      refine .inr ⟨_, own, blk, s', hobs, nofun, ?_⟩
      split
      · exact .inl rfl
      · split
        next hm => exact .inr (.inr ⟨hm, by simp⟩)
        next hm => exact .inr (.inl ⟨hm, rfl⟩)
        · exact .inl rfl

end Sys2Proof.Machine

namespace Sys2Proof.Machine

/-! ### What a CLAIM leaves as it was (R43 to R47) -/

/-- What a CLAIM leaves as it was: it moves NS or the join NS, the claim slot and one queue, and counts. -/
structure ClaimFrame (s t : State) : Prop where
  group : t.group = { s.group with join := t.group.join }
  release : t.release = s.release
  holdQueue : t.holdQueue = s.holdQueue
  timeBase : t.timeBase = s.timeBase
  pending : t.pending = s.pending
  snap : snapOf t = snapOf s
  ring : t.status.ring = s.status.ring

namespace ClaimFrame

variable {s t v : State}

theorem refl (s : State) : ClaimFrame s s := ⟨rfl, rfl, rfl, rfl, rfl, rfl, rfl⟩

theorem trans (h : ClaimFrame s t) (h' : ClaimFrame t v) : ClaimFrame s v where
  group := by rw [h'.group, h.group]
  release := h'.release.trans h.release
  holdQueue := h'.holdQueue.trans h.holdQueue
  timeBase := h'.timeBase.trans h.timeBase
  pending := h'.pending.trans h.pending
  snap := h'.snap.trans h.snap
  ring := h'.ring.trans h.ring

theorem slotClosed (s : State) : ClaimFrame s (slotClosed s) := ⟨rfl, rfl, rfl, rfl, rfl, rfl, rfl⟩

theorem countLost (s : State) : ClaimFrame s (countLost s) := by
  unfold Machine.countLost
  split
  · exact ⟨rfl, rfl, rfl, rfl, rfl, rfl, rfl⟩
  · exact refl s

theorem countStation (f : StationCounters → StationCounters) (s : State) : ClaimFrame s (countStation f s) :=
  ⟨rfl, rfl, rfl, rfl, rfl, rfl, rfl⟩

theorem closeNoClaim (s : State) : ClaimFrame s (closeNoClaim s) := by
  unfold Machine.closeNoClaim
  dsimp only
  split
  · exact ((countLost s).trans (countStation _ _)).trans (slotClosed _)
  · exact (countLost s).trans (slotClosed _)

theorem closeByOther (s : State) : ClaimFrame s (closeByOther s) := by
  obtain ⟨h, _⟩ | ⟨h, _⟩ := closeByOther_cases s <;> rw [h]
  · exact refl s
  · exact closeNoClaim s

theorem observe {k : SlotKind} {o : Observed} {own : Bool} {blk : BusBlock} (h : observe k o s = some (own, blk, t)) :
    ClaimFrame s t := by
  have ended : ClaimFrame s (blockEnded s) := ⟨rfl, rfl, rfl, rfl, rfl, rfl, rfl⟩
  obtain ⟨_, _, x, _, _, _, rfl⟩ | ⟨_, _, _, rfl⟩ | ⟨_, _, _, rfl⟩ := observe_cases h
  · exact ⟨rfl, rfl, rfl, rfl, rfl, rfl, rfl⟩
  · exact ended
  · exact ended.trans (closeByOther _)

theorem adoptNs (q : Seq) (s : State) : ClaimFrame s (adoptNs q s) := by
  unfold Machine.adoptNs
  dsimp only
  split <;> exact ⟨rfl, rfl, rfl, rfl, rfl, rfl, rfl⟩

theorem claimNs (own : Bool) (q : Seq) (s : State) : ClaimFrame s (claimNs own q s) := by
  unfold Machine.claimNs
  split
  · exact adoptNs q s
  · split
    · exact adoptNs q s
    · exact refl s
  · exact ⟨rfl, rfl, rfl, rfl, rfl, rfl, rfl⟩
  · exact refl s

theorem deliverWon (p : Pair) (q : Seq) (s : State) : ClaimFrame s (deliverWon p q s) := by
  unfold Machine.deliverWon
  (repeat' split) <;> exact ⟨rfl, rfl, rfl, rfl, rfl, rfl, rfl⟩

theorem closeWon (p : Pair) (q : Seq) (s : State) : ClaimFrame s (closeWon p q s) :=
  ((countStation _ s).trans (deliverWon p q _)).trans (slotClosed _)

end ClaimFrame

theorem exec_claim_frame {o : Observed} {s t : State} (h : exec (.claim o) s = .next t) : ClaimFrame s t := by
  obtain rfl | ⟨own, blk, s', hobs, h⟩ := exec_claim_cases h
  · exact .refl t
  have seen := ClaimFrame.observe hobs
  obtain rfl | ⟨q, rfl | ⟨_, _, rfl⟩ | ⟨_, _, _, rfl⟩⟩ := h
  · exact seen.trans (.closeByOther s')
  · exact seen.trans (.claimNs own q s')
  · exact (seen.trans (.claimNs own q s')).trans (.closeWon _ q _)
  · exact (seen.trans (.claimNs own q s')).trans ((ClaimFrame.countLost _).trans (.slotClosed _))

/-! ### The entries to LISTENING, ACTIVE and SPARE -/

theorem storeRecord_eq (r : StartRecord) (defaults : Bool) (s : State) :
    storeRecord r defaults s =
      { s with
        group :=
          { s.group with
            record := some r, defaultsInUse := defaults, mode := .listening, readTimer := .stopped, join := .empty
            listening := .running (listenPeriod s) }
        lines := quadOf (fun p => if quadGet r.enabled p then line s p else lineOff (line s p)) } := rfl

/-- R18 to R20: what the commands of WAITING and READING come to. -/
theorem exec_start_cases {c : Instr} {s t : State}
    (hc : c = .chainInAsserted ∨ (∃ r sum, c = .startRecordRead r sum) ∨ c = .startMemoryTimeout)
    (h : exec c s = .next t) :
    t = s ∨
      (s.group.mode = .waiting ∧
        t = { s with group := { s.group with mode := .reading, readTimer := .running Config.readLimit } }) ∨
      (s.group.mode = .reading ∧ mayChangeRecord c = true ∧
        ∃ r d, ((∃ bits, r = clampRecord bits) ∨ r = .defaults) ∧ t = storeRecord r d s) := by
  obtain rfl | ⟨r, sum, rfl⟩ | rfl := hc <;> obtain rfl := Host.Outcome.next.inj h
  · split
    next hm => exact .inr (.inl ⟨hm, rfl⟩)
    · exact .inl rfl
  · split
    next hm =>
      refine .inr (.inr ⟨hm, rfl, ?_⟩)
      split
      · exact ⟨_, _, .inl ⟨r, rfl⟩, rfl⟩
      · exact ⟨_, _, .inr rfl, rfl⟩
    · exact .inl rfl
  · split
    next hm => exact .inr (.inr ⟨hm, rfl, _, _, .inr rfl, rfl⟩)
    · exact .inl rfl

/-- R23: what the end of the listening period comes to. -/
theorem exec_listeningPeriodEnd_cases {s t : State} (h : exec .listeningPeriodEnd s = .next t) :
    t = s ∨ (s.group.mode = .listening ∧ ((∃ k, t = enterActive k s) ∨ t = enterSpare s)) := by
  obtain rfl := Host.Outcome.next.inj h
  split
  next hm _ =>
    refine .inr ⟨hm, ?_⟩
    split
    · exact .inl ⟨_, rfl⟩
    · split
      · exact .inl ⟨_, rfl⟩
      · exact .inr rfl
  · exact .inl rfl

theorem pinReset_eq {s t : State} (h : exec .pinReset s = .next t) : t = { State.reset with pending := s.pending } :=
  (Host.Outcome.next.inj h).symm

theorem busReset_eq {s t : State} (h : exec .busReset s = .next t) :
    t = { s with
      port := { BusPort.reset with dominant := true }
      group := busResetGroup s.group
      sequencer := .reset
      lines := quadOf (fun p => busResetLine (quadGet (config s).enabled p))
      holdQueue := .reset
      release := .reset
      status := .reset
      timeBase := 0 } := (Host.Outcome.next.inj h).symm

theorem busResetGroup_record (g : GroupMonitor) :
    (busResetGroup g).record = g.record ∧ (busResetGroup g).defaultsInUse = g.defaultsInUse := by
  unfold busResetGroup
  split <;> exact ⟨rfl, rfl⟩

/-! ## The machine: steps, commands and what they may move -/

/-- Settles O1: the front of the queue is what the step matches on. -/
theorem stepRunsTheCommandAtTheFront : Obligations.StepRunsTheCommandAtTheFront := by
  intro c rest s hq
  unfold step
  rw [hq]

theorem exec_answers (c : Instr) (s : State) : ∃ t, exec c s = .next t := by
  cases c <;> exact ⟨_, rfl⟩

/-- The kinds of command: of a pair, FRAG apart; FRAG; of the bus; and those that move the station. -/
theorem command_kinds (c : Instr) :
    (∃ p, pairOf c = some p ∧ ∀ f, c ≠ .frag p f) ∨ (∃ p f, c = .frag p f) ∨
      (pairOf c = none ∧ movesStation c = false) ∨
      c = .pinReset ∨ c = .busReset ∨ c = .listeningPeriodEnd ∨
      (c = .chainInAsserted ∨ (∃ r sum, c = .startRecordRead r sum) ∨ c = .startMemoryTimeout) ∨
      (∃ o, c = .mark o) ∨ ∃ o, c = .claim o := by
  cases hp : pairOf c with
  | some p =>
    by_cases hf : ∃ f, c = .frag p f
    · exact .inr (.inl ⟨p, hf⟩)
    · exact .inl ⟨p, rfl, fun f h => hf ⟨f, h⟩⟩
  | none =>
    cases hm : movesStation c with
    | false => exact .inr (.inr (.inl ⟨rfl, rfl⟩))
    | true =>
      cases c <;> first | (cases hp; done) | (cases hm; done) | simp

/-- A command keeps the time base, unless it resets, and the commands that wait. -/
theorem exec_time {c : Instr} {s t : State} (h : exec c s = .next t) :
    t.pending = s.pending ∧ (resets c = false → t.timeBase = s.timeBase) := by
  obtain ⟨p, hp, hf⟩ | ⟨p, f, rfl⟩ | ⟨hp, hm⟩ | rfl | rfl | rfl | hc | ⟨o, rfl⟩ | ⟨o, rfl⟩ := command_kinds c
  · have step := exec_pairStep hp hf h
    exact ⟨step.pending, fun _ => step.timeBase⟩
  · obtain step | ⟨s', step, _, rfl⟩ := exec_frag_cases h
    · exact ⟨step.pending, fun _ => step.timeBase⟩
    · exact ⟨by simp [step.pending], fun _ => by simp [step.timeBase]⟩
  · have frame := exec_busFrame hp hm h
    exact ⟨frame.pending, fun _ => frame.timeBase⟩
  · rw [pinReset_eq h]
    exact ⟨rfl, nofun⟩
  · rw [busReset_eq h]
    exact ⟨rfl, nofun⟩
  · obtain rfl | ⟨_, ⟨k, rfl⟩ | rfl⟩ := exec_listeningPeriodEnd_cases h
    · exact ⟨rfl, fun _ => rfl⟩
    · exact ⟨by simp [enterActive], fun _ => by simp [enterActive]⟩
    · exact ⟨rfl, fun _ => rfl⟩
  · obtain rfl | ⟨_, rfl⟩ | ⟨_, _, r, d, _, rfl⟩ := exec_start_cases hc h <;> exact ⟨rfl, fun _ => rfl⟩
  · obtain rfl | ⟨own, blk, s', hobs, h⟩ := exec_mark_cases h
    · exact ⟨rfl, fun _ => rfl⟩
    have seen := BusFrame.observe hobs
    obtain rfl | ⟨k, _, _, rfl⟩ | ⟨k, _, rfl⟩ | ⟨k, _, _, rfl⟩ := h
    · exact ⟨seen.pending, fun _ => seen.timeBase⟩
    · exact ⟨by simp [seen.pending], fun _ => by simp [seen.timeBase]⟩
    · exact ⟨seen.pending, fun _ => seen.timeBase⟩
    · have frame := seen.trans (.markHeard k blk s')
      exact ⟨frame.pending, fun _ => frame.timeBase⟩
  · have frame := exec_claim_frame h
    exact ⟨frame.pending, fun _ => frame.timeBase⟩

/-- Settles O5: each kind of command has a frame that names the time base and the queue. -/
theorem everyCommandAnswersANextStateAtOnce : Obligations.EveryCommandAnswersANextStateAtOnce := by
  intro c s
  obtain ⟨t, h⟩ := exec_answers c s
  exact ⟨t, h, exec_time h⟩

/-- Settles O13: a command of a pair is a step of that pair, a FRAG's arrival at the hold queue too. -/
theorem commandsOfAPairLeaveOtherPairsAlone : Obligations.CommandsOfAPairLeaveOtherPairsAlone := by
  intro c s t p r hp hr h
  by_cases hf : ∃ f, c = .frag p f
  · obtain ⟨f, rfl⟩ := hf
    obtain step | ⟨s', step, _, rfl⟩ := exec_frag_cases h
    · exact step.others r hr
    · rw [line_holdArrival, step.others r hr]
  · exact (exec_pairStep hp (fun f h => hf ⟨f, h⟩) h).others r hr

/-! ### E and the snapshot at the commands of the bus -/

/-- A command of the bus keeps E unless it is a RELEASE, a SKIP or a REBASE, and the snapshot unless it is a SNAPSHOT. -/
theorem exec_bus_keeps {c : Instr} {s t : State} (hp : pairOf c = none) (hc : movesStation c = false)
    (h : exec c s = .next t) :
    (mayMoveE c = false → t.release.e = s.release.e) ∧ (mayChangeSnapshot c = false → snapOf t = snapOf s) := by
  have moves {c : Instr} {o : Observed} (hc : c = .release o ∨ c = .skip o ∨ c = .rebase o)
      (h : exec c s = .next t) : snapOf t = snapOf s := by
    obtain rfl | ⟨k, own, blk, s', hobs, _, h⟩ := exec_moving_cases hc h
    · rfl
    rw [← snapOf_observe hobs]
    obtain rfl | ⟨_, rfl⟩ | ⟨_, rfl | rfl | rfl⟩ := h
    · rfl
    · rfl
    · cases own <;> simp [releaseActive] <;> rfl
    · cases own <;> simp [skipActive]
    · cases own <;> (simp [rebaseActive]; rfl)
  cases c <;> first | (cases hp; done) | (cases hc; done) | skip
  case release o => exact ⟨nofun, fun _ => moves (.inl rfl) h⟩
  case skip o => exact ⟨nofun, fun _ => moves (.inr (.inl rfl)) h⟩
  case rebase o => exact ⟨nofun, fun _ => moves (.inr (.inr rfl)) h⟩
  case busIdleContend others =>
    obtain rfl | ⟨_, _, rfl | ⟨k, x, _, rfl | ⟨_, rfl⟩⟩⟩ := exec_busIdleContend_cases h <;>
      exact ⟨fun _ => rfl, fun _ => rfl⟩
  case sendAbort =>
    obtain rfl | ⟨x, _, ⟨_, ⟨_, rfl⟩ | ⟨_, rfl⟩⟩ | ⟨_, rfl⟩⟩ := exec_sendAbort_cases h
    · exact ⟨fun _ => rfl, fun _ => rfl⟩
    · exact ⟨fun _ => by simp [aborted], fun _ => by rw [snapOf_closeNoClaim]; rfl⟩
    · exact ⟨fun _ => rfl, fun _ => rfl⟩
    · exact ⟨fun _ => by simp [aborted], fun _ => by rw [snapOf_attemptFailed]; rfl⟩
  case offer blk =>
    obtain rfl | ⟨f, g, rfl⟩ | ⟨f, o, ⟨_, rfl⟩ | ⟨_, rfl⟩⟩ := exec_offer_cases h
    · exact ⟨fun _ => by simp, fun _ => by simp⟩
    · exact ⟨fun _ => rfl, fun _ => rfl⟩
    · exact ⟨fun _ => by simp, fun _ => by rw [snapOf_judgeOffer]; exact snapOf_closeNoClaim _⟩
    · exact ⟨fun _ => by simp, fun _ => by rw [snapOf_judgeOffer]; rfl⟩
  all_goals obtain rfl := Host.Outcome.next.inj h
  case busRelease => constructor <;> intro _ <;> split <;> rfl
  case badBlock cause => exact ⟨fun _ => by simp, fun _ => by rw [snapOf_closeByOther]; rfl⟩
  case claimSlotTimeout => constructor <;> intro _ <;> split <;> simp
  case holdOn blk => constructor <;> intro _ <;> dsimp only <;> split <;> simp
  case holdOff blk => constructor <;> intro _ <;> dsimp only <;> split <;> simp
  case replyObserved o =>
    split
    · exact ⟨fun _ => rfl, fun _ => rfl⟩
    next hobs => exact ⟨fun _ => congrArg _ (ClaimFrame.observe hobs).release, fun _ => snapOf_observe hobs⟩
  case snapshot blk => exact ⟨fun _ => by dsimp only; split <;> simp, nofun⟩
  case beaconExpiry =>
    split
    · exact ⟨fun _ => rfl, fun _ => rfl⟩
    · constructor <;> intro _ <;> dsimp only <;> (repeat' split) <;> simp <;> rfl
  case skipTimerExpiry => constructor <;> intro _ <;> split <;> simp <;> rfl
  case holdLimitExpiry => constructor <;> intro _ <;> split <;> simp
  all_goals exact ⟨fun _ => congrArg _ (by simp), fun _ => by simp⟩

end Sys2Proof.Machine

namespace Sys2Proof.Machine

@[simp] theorem snapOf_runawayUp (q : Seq) (s : State) : snapOf (runawayUp q s) = snapOf s := snapOf_congr (by simp)

@[simp] theorem snapOf_classifyArrival (e : Seq) (x : HoldEntry) (s : State) : snapOf (classifyArrival e x s) = snapOf s := by
  unfold classifyArrival storeAtFull
  dsimp only
  (repeat' split) <;> first | rfl | simp

@[simp] theorem snapOf_holdArrival (x : HoldEntry) (s : State) : snapOf (holdArrival x s) = snapOf s := by
  unfold holdArrival
  split
  · rfl
  · simp [snapOf_congr (skipTimerAtArrival_status _ _)]

/-- What a command may move of E, NS, the start record and the snapshot (O12). -/
structure NamedOnly (c : Instr) (s t : State) : Prop where
  e : mayMoveE c = false → t.release.e = s.release.e
  ns : mayMoveNs c = false → t.sequencer.ns = s.sequencer.ns
  record : mayChangeRecord c = false →
    t.group.record = s.group.record ∧ t.group.defaultsInUse = s.group.defaultsInUse
  snap : mayChangeSnapshot c = false → snapOf t = snapOf s

theorem NamedOnly.refl (c : Instr) (s : State) : NamedOnly c s s := ⟨fun _ => rfl, fun _ => rfl, fun _ => ⟨rfl, rfl⟩, fun _ => rfl⟩

theorem PairStep.snapOf {p : Pair} {s t : State} (h : PairStep p s t) : snapOf t = snapOf s := by
  obtain ⟨hsnap, htag, hstamp⟩ := h.snap
  simp only [Machine.snapOf, hsnap, htag, hstamp]

theorem PairStep.namedOnly {p : Pair} {s t : State} (h : PairStep p s t) (c : Instr) : NamedOnly c s t where
  e _ := by rw [h.release]
  ns _ := by rw [h.sequencer]
  record _ := by simp only [h.group, and_self]
  snap _ := h.snapOf

theorem exec_mark_named {o : Observed} {s t : State} (h : exec (.mark o) s = .next t) : NamedOnly (.mark o) s t := by
  obtain rfl | ⟨own, blk, s', hobs, h⟩ := exec_mark_cases h
  · exact .refl _ t
  have frame := BusFrame.observe hobs
  have hrel : s'.release = s.release := (ClaimFrame.observe hobs).release
  have hsnap := snapOf_observe hobs
  obtain rfl | ⟨k, _, _, rfl⟩ | ⟨k, _, rfl⟩ | ⟨k, _, _, rfl⟩ := h
  · exact ⟨fun _ => by rw [hrel], fun _ => frame.ns, fun _ => ⟨frame.record, frame.defaults⟩, fun _ => hsnap⟩
  · exact ⟨fun _ => by simp [hrel], fun _ => by simp [frame.ns], fun _ => by simp [frame.record, frame.defaults],
      fun _ => by simp [hsnap]⟩
  · exact ⟨fun _ => by simp [joinMark, hrel], fun _ => frame.ns, fun _ => ⟨frame.record, frame.defaults⟩, fun _ => hsnap⟩
  · have heard := frame.trans (.markHeard k blk s')
    refine ⟨fun _ => ?_, fun _ => heard.ns, fun _ => ⟨heard.record, heard.defaults⟩, fun _ => ?_⟩
    · rw [← hrel]; unfold markHeard; dsimp only; (repeat' split) <;> simp
    · rw [← hsnap]; unfold markHeard; dsimp only; (repeat' split) <;> first | rfl | (simp; rfl)

/-- Settles O12: each kind of command has a frame that says which of the four it may move. -/
theorem onlyTheNamedCommandsMoveENsRecordAndSnapshot : Obligations.OnlyTheNamedCommandsMoveENsRecordAndSnapshot := by
  intro c s t h
  have named : NamedOnly c s t := by
    obtain ⟨p, hp, hf⟩ | ⟨p, f, rfl⟩ | ⟨hp, hm⟩ | rfl | rfl | rfl | hc | ⟨o, rfl⟩ | ⟨o, rfl⟩ := command_kinds c
    · exact (exec_pairStep hp hf h).namedOnly c
    · obtain step | ⟨s', step, _, rfl⟩ := exec_frag_cases h
      · exact step.namedOnly _
      · have before := step.namedOnly (.frag p f)
        exact ⟨fun _ => by simpa using before.e rfl, fun _ => by simpa using before.ns rfl,
          fun _ => by simpa using before.record rfl, fun _ => by simpa using before.snap rfl⟩
    · have frame := exec_busFrame hp hm h
      obtain ⟨he, hsnap⟩ := exec_bus_keeps hp hm h
      exact ⟨he, fun _ => frame.ns, fun _ => ⟨frame.record, frame.defaults⟩, hsnap⟩
    · exact ⟨nofun, nofun, nofun, nofun⟩
    · rw [busReset_eq h]
      exact ⟨nofun, nofun, fun _ => busResetGroup_record s.group, nofun⟩
    · obtain rfl | ⟨_, ⟨k, rfl⟩ | rfl⟩ := exec_listeningPeriodEnd_cases h
      · exact .refl _ t
      · exact ⟨nofun, nofun, fun _ => ⟨rfl, rfl⟩, fun _ => rfl⟩
      · exact ⟨nofun, nofun, fun _ => ⟨rfl, rfl⟩, fun _ => rfl⟩
    · obtain rfl | ⟨_, rfl⟩ | ⟨_, hm, r, d, _, rfl⟩ := exec_start_cases hc h
      · exact .refl _ t
      · exact ⟨fun _ => rfl, fun _ => rfl, fun _ => ⟨rfl, rfl⟩, fun _ => rfl⟩
      · exact ⟨fun _ => rfl, fun _ => rfl, fun hr => absurd hr (by simp [hm]), fun _ => rfl⟩
    · exact exec_mark_named h
    · have frame := exec_claim_frame h
      exact ⟨fun _ => by rw [frame.release], nofun, fun _ => by rw [frame.group]; exact ⟨rfl, rfl⟩, fun _ => frame.snap⟩
  exact ⟨named.e, named.ns, named.record, fun hc => by simpa only [snapOf, Prod.mk.injEq] using named.snap hc⟩

/-- Settles O3: every field is the reset value of the model, read off for each pair, number and kind. -/
theorem pinResetLeavesStatedValues : Obligations.PinResetLeavesStatedValues := by
  intro s
  refine ⟨rfl, rfl, rfl, rfl, rfl, rfl, rfl, rfl, fun k => ?_, fun k => ?_, rfl, rfl, rfl, rfl, fun p => ?_, rfl, rfl, rfl, rfl,
    rfl, rfl, rfl, rfl, rfl, rfl, rfl⟩
  · cases k <;> rfl
  · cases k <;> rfl
  · cases p <;> decide

/-- Settles O4: a fixed state, each law evaluated on it. -/
theorem resetMeetsEveryLaw : Obligations.ResetMeetsEveryLaw := by
  have idle : LineRates .defaults .reset := .of_idle (.inr (.inl rfl)) rfl rfl rfl
  have counted : LineRanges .reset := by unfold LineRanges; decide
  refine ⟨⟨by decide, by decide, rfl⟩, ⟨by decide, by decide, by decide, by decide, by decide⟩,
    ⟨by decide, by decide, by decide⟩, ⟨by decide, ?_, by decide⟩, ⟨?_, by decide, ⟨counted, counted, counted, counted⟩, by decide⟩,
      by decide, by decide⟩
  · exact ⟨idle, idle, idle, idle⟩
  · exact ⟨by decide, by decide⟩

/-- Settles O21: the branches of `searchStep` and `halve`, each under its own condition. -/
theorem burstResultMovesTheSearch : Obligations.BurstResultMovesTheSearch := by
  intro lo hi c g x n
  refine ⟨?_, ?_, ?_, ?_, ?_, ?_, ?_, ?_⟩ <;> intro h
  · simp [searchStep, h]
  · simp [searchStep, h]
  · simp [searchStep, h]
  · intro hgap; simp [searchStep, halve, h, hgap]
  · simp [searchStep, halve, h]
  · simp [searchStep, halve, h]
  · simp [searchStep, halve, h]
  · simp [searchStep, halve, h]

/-! ## One microsecond -/

/-- The counters of one pair after the choices due: an IDLE that starts is counted (R72). -/
def idleCounted (s : State) (p : Pair) (c : PairCounters) : PairCounters :=
  if (line s p).tx.isNone && txIsIdle (chooseLine s (line s p)) then { c with idleFrames := c.idleFrames + 1 } else c

theorem chooseNext_live (p : Pair) (s : State) :
    (chooseNext p s).status =
      { s.status with
        live := { s.status.live with
          pairs := quadSet s.status.live.pairs p (idleCounted s p (quadGet s.status.live.pairs p)) } } := by
  rw [chooseNext_status]
  unfold idleCounted
  split <;> simp [countPair]

theorem idleCounted_chooseNext {p r : Pair} (s : State) (h : r ≠ p) : idleCounted (chooseNext p s) r = idleCounted s r := by
  funext c
  simp [idleCounted, line_chooseNext_other s h, chooseLine_chooseNext]

/-- R68, R72: of the status unit the choices due move the counts of IDLE frames alone. -/
theorem chooseDue_status (s : State) :
    (chooseDue s).status =
      { s.status with
        live :=
          { s.status.live with pairs := quadOf (fun p => idleCounted s p (quadGet s.status.live.pairs p)) } } := by
  simp only [chooseDue, allPairs, List.foldl_cons, List.foldl_nil, chooseNext_live, ne_eq, reduceCtorEq,
    not_false_eq_true, idleCounted_chooseNext]
  rfl

/-- Settles O2: the choices due, pair by pair, and the clock. -/
theorem idleStepPassesOneMicrosecond : Obligations.IdleStepPassesOneMicrosecond := by
  intro s hs later chosen idles
  have hstep : step s = .next (tick s) := by unfold step; rw [hs]
  have hline : ∀ p, line (chooseDue s) p = chosen p := by
    intro p
    simp only [line_chooseDue, chosen]
    cases (line s p).tx <;> rfl
  have hidles : ∀ p c, idleCounted s p c = if idles p then { c with idleFrames := c.idleFrames + 1 } else c := by
    intro p c
    simp only [idleCounted, idles, ← hline, line_chooseDue]
    cases (line s p).tx <;> rfl
  have hlater : later = tickTimer := by funext x; cases x <;> rfl
  rw [hstep, tick]
  simp only [clockOn, hline, hidles, chooseDue_status, chooseDue_port, chooseDue_group, chooseDue_sequencer, chooseDue_holdQueue,
    chooseDue_release, chooseDue_timeBase, chooseDue_pending, hlater]
  rfl

end Sys2Proof.Machine

namespace Sys2Proof.Machine

/-! ## The rate search (R93) -/

section Search

variable {lo best hi : Nat}

/-- R93: the bursts that are clean exactly up to `best`. -/
abbrev cleanUpTo (best r : Nat) : Bool := decide (r ≤ best)

/-- HALVING: `m` bursts bring a gap of at most 2^m between the good and the failed rate down to 1. -/
theorem searchResult_halving (m : Nat) : ∀ {g f : Nat} (b : Nat), g ≤ best → best < f → 1 < f - g → f - g ≤ 2 ^ m →
    searchResult (cleanUpTo best) lo hi m ⟨.halving, (g + f) / 2, some g, some f, b⟩ = some best := by
  induction m with
  | zero => intro g f b _ _ hgap hle; omega
  | succ m ih =>
    intro g f b hg hf hgap hle
    rw [Nat.pow_succ] at hle
    by_cases hc : (g + f) / 2 ≤ best
    · by_cases hnext : 1 < f - (g + f) / 2
      · simpa [searchResult, searchStep, halve, hc, hnext] using ih (b + 1) hc hf hnext (by omega)
      · simp only [searchResult, searchStep, halve, hc, cleanUpTo, decide_true, if_true, Option.getD_some, gt_iff_lt, hnext,
          if_false, Option.some.injEq]
        omega
    · have hlow : best < (g + f) / 2 := by omega
      by_cases hnext : 1 < (g + f) / 2 - g
      · simpa [searchResult, searchStep, halve, hc, hnext] using ih (b + 1) hg hlow hnext (by omega)
      · simp only [searchResult, searchStep, halve, hc, cleanUpTo, decide_false, Bool.false_eq_true, if_false, Option.getD_some,
          gt_iff_lt, hnext, Option.some.injEq]
        omega

/-- A clean burst at hi ends RISING there. -/
theorem searchResult_top {good : Option Nat} (b n : Nat) (h : best = hi) :
    searchResult (cleanUpTo best) lo hi (n + 1) ⟨.rising, hi, good, none, b⟩ = some best := by
  simp [searchResult, searchStep, h]

/-- A failure in RISING: the gap down to the last clean rate is at most 128, so seven bursts of HALVING are enough. -/
theorem searchResult_rising_fails {c g : Nat} (b n : Nat) (hn : 7 ≤ n) (hc : best < c) (hg : g ≤ best) (hlo : lo ≤ g)
    (hgap : c - g ≤ 2 ^ 7) :
    searchResult (cleanUpTo best) lo hi (n + 1) ⟨.rising, c, some g, none, b⟩ = some best := by
  have hdirty : ¬c ≤ best := by omega
  have hfloor : c ≠ lo := by omega
  have hpow : 2 ^ 7 ≤ 2 ^ n := Nat.pow_le_pow_right (by decide) hn
  by_cases hnext : 1 < c - g
  · simpa [searchResult, searchStep, halve, hdirty, hfloor, hnext] using
      searchResult_halving n (b + 1) hg hc hnext (hgap.trans hpow)
  · simp only [searchResult, searchStep, halve, cleanUpTo, hdirty, hfloor, decide_false, Bool.false_eq_true, if_false,
      Option.getD_some, gt_iff_lt, hnext, Option.some.injEq]
    omega

/-- RISING: from a candidate that `k` doublings bring to hi, `k` bursts more than a failure here takes are enough. -/
theorem searchResult_rising (hhi : hi ≤ 256) (hbest : best ≤ hi) (k : Nat) :
    ∀ {c : Nat} {good : Option Nat} (b : Nat), 1 ≤ c → c ≤ hi → hi ≤ c * 2 ^ k →
      (good = none ∧ lo ≤ c ∧ c ≤ best ∨ ∃ g, good = some g ∧ lo ≤ g ∧ g ≤ best ∧ g < c ∧ c ≤ 2 * g) →
      searchResult (cleanUpTo best) lo hi (7 + k + 1) ⟨.rising, c, good, none, b⟩ = some best := by
  induction k with
  | zero =>
    intro c good b hc1 hc hk hgood
    obtain rfl : c = hi := by omega
    obtain ⟨rfl, _, hclean⟩ | ⟨g, rfl, hlo, hg, _, hdouble⟩ := hgood
    · exact searchResult_top b 7 (by omega)
    · by_cases hclean : c ≤ best
      · exact searchResult_top b 7 (by omega)
      · exact searchResult_rising_fails b 7 le_rfl (by omega) hg hlo (by omega)
  | succ k ih =>
    intro c good b hc1 hc hk hgood
    rw [Nat.pow_succ] at hk
    by_cases hclean : c ≤ best
    · by_cases htop : c = hi
      · subst htop
        exact searchResult_top b _ (by omega)
      · have hlo : lo ≤ c := by obtain ⟨_, h, _⟩ | ⟨g, _, h, _, _, _⟩ := hgood <;> omega
        have hcap : hi ≤ min (2 * c) hi * 2 ^ k := by
          obtain h | h := Nat.le_total (2 * c) hi
          · rw [Nat.min_eq_left h]; calc
              hi ≤ c * (2 ^ k * 2) := hk
              _ = 2 * c * 2 ^ k := by ring
          · rw [Nat.min_eq_right h]; exact Nat.le_mul_of_pos_right _ (Nat.two_pow_pos k)
        simpa [searchResult, searchStep, hclean, htop] using
          ih (b + 1) (by omega) (by omega) hcap (.inr ⟨c, rfl, hlo, hclean, by omega, by omega⟩)
    · obtain ⟨_, _, h⟩ | ⟨g, rfl, hlo, hg, _, hdouble⟩ := hgood
      · exact absurd h hclean
      · exact searchResult_rising_fails b (7 + (k + 1)) (by omega) (by omega) hg hlo (by omega)

end Search

/-- Settles O20: eight doublings bring any range to its end, and seven halvings close the gap that a failure leaves. -/
theorem searchFindsTheHighestCleanRate : Obligations.SearchFindsTheHighestCleanRate := by
  intro lo best hi hlo hbest hhi htop
  exact searchResult_rising htop hhi 8 1 hlo (hbest.trans hhi) (by omega) (.inl ⟨rfl, le_rfl, hbest⟩)

end Sys2Proof.Machine

namespace Sys2Proof.Machine

/-! ## The candidate of an offer (R40, R41, R61) -/

theorem eligiblePair_iff (len : Nat) (s : State) (p : Pair) :
    eligiblePair len s p = true ↔
      (line s p).state = .service ∧ (line s p).los = false ∧
        (line s p).queue.length < quadGet (config s).sendLimit p ∧ poolUsed s < Config.poolSlots ∧
        bidOf len (line s p) ≤ (config s).ceiling := by
  simp [eligiblePair, and_assoc]

/-- What `bestOf` says of a list of pairs in the order of their index. -/
def BestAmong (len : Nat) (s : State) (ps : List Pair) (b : Option Candidate) : Prop :=
  match b with
  | none => ∀ p ∈ ps, eligiblePair len s p = false
  | some c =>
    c.pair ∈ ps ∧ eligiblePair len s c.pair = true ∧ c.bid = bidOf len (line s c.pair) ∧
      ∀ p ∈ ps, eligiblePair len s p = true →
        c.bid < bidOf len (line s p) ∨ c.bid = bidOf len (line s p) ∧ pairIndex c.pair ≤ pairIndex p

theorem bestOf_bestAmong (len : Nat) (s : State) (ps : List Pair) (hps : ps.Pairwise (fun p r => pairIndex p ≤ pairIndex r)) :
    BestAmong len s ps (bestOf len s ps) := by
  induction ps with
  | nil => exact nofun
  | cons p ps ih =>
    obtain ⟨hfirst, hrest⟩ := List.pairwise_cons.mp hps
    have best := ih hrest
    unfold bestOf
    cases he : eligiblePair len s p with
    | false =>
      rw [if_neg (by simp)]
      revert best
      cases bestOf len s ps with
      | none => exact fun best => List.forall_mem_cons.mpr ⟨he, best⟩
      | some c =>
        rintro ⟨hmem, hel, hbid, hbest⟩
        exact ⟨List.mem_cons_of_mem p hmem, hel, hbid,
          List.forall_mem_cons.mpr ⟨fun h => absurd h (by simp [he]), hbest⟩⟩
    | true =>
      rw [if_pos rfl]
      revert best
      cases bestOf len s ps with
      | none =>
        intro best
        exact ⟨List.mem_cons_self, he, rfl, List.forall_mem_cons.mpr ⟨fun _ => .inr ⟨rfl, le_rfl⟩,
          fun r hr hel => absurd hel (by simp [best r hr])⟩⟩
      | some c =>
        rintro ⟨hmem, hel, hbid, hbest⟩
        by_cases hle : bidOf len (line s p) ≤ c.bid
        · simp only [hle, if_true]
          refine ⟨List.mem_cons_self, he, rfl, List.forall_mem_cons.mpr ⟨fun _ => .inr ⟨rfl, le_rfl⟩, fun r hr hel => ?_⟩⟩
          have hindex := hfirst r hr
          obtain h | ⟨h, _⟩ := hbest r hr hel
          · exact .inl (by simp only; omega)
          · simp only; omega
        · simp only [hle, if_false]
          exact ⟨List.mem_cons_of_mem p hmem, hel, hbid,
            List.forall_mem_cons.mpr ⟨fun _ => .inl (by omega), hbest⟩⟩

theorem mem_allPairs (p : Pair) : p ∈ allPairs := by cases p <;> decide

/-- Settles O18: the fold over the pairs in the order of their index keeps the lowest bid, and the first of equal ones. -/
theorem candidateIsTheLowestEligibleBid : Obligations.CandidateIsTheLowestEligibleBid := by
  intro len s
  have best := bestOf_bestAmong len s allPairs (by decide)
  refine ⟨eligiblePair_iff len s, fun c hc => ?_, fun hn p => ?_⟩
  · rw [show bestOf len s allPairs = some c from hc] at best
    obtain ⟨_, hel, hbid, hbest⟩ := best
    exact ⟨hel, hbid, fun p => hbest p (mem_allPairs p)⟩
  · rw [show bestOf len s allPairs = none from hn] at best
    exact best p (mem_allPairs p)

/-! ## The stored record (R20, R21, R184) -/

theorem recordField_eq (r : BitVec 128) (first width : Nat) :
    recordField r first width = r.toNat / 2 ^ (128 - first - width) % 2 ^ width := by
  simp [recordField, BitVec.toNat_ushiftRight, Nat.shiftRight_eq_div_pow]

theorem raiseDetect_spec (base fuel n : Nat) (h : base < 2 ^ (n + fuel)) :
    n ≤ raiseDetect base fuel n ∧ base < 2 ^ raiseDetect base fuel n ∧ raiseDetect base fuel n ≤ n + fuel ∧
      ∀ i, n ≤ i → base < 2 ^ i → raiseDetect base fuel n ≤ i := by
  induction fuel generalizing n with
  | zero => exact ⟨le_rfl, h, le_rfl, fun i hi _ => hi⟩
  | succ fuel ih =>
    unfold raiseDetect
    split
    next hdone => exact ⟨le_rfl, hdone, by omega, fun i hi _ => hi⟩
    next hlow =>
      obtain ⟨hle, hexp, hmax, hleast⟩ := ih (n + 1) (by rwa [Nat.add_right_comm, Nat.add_assoc])
      refine ⟨by omega, hexp, by omega, fun i hi hbase => hleast i (Nat.lt_of_le_of_ne hi ?_) hbase⟩
      rintro rfl
      exact hlow hbase

theorem sendLimitOfCode_eq (code : Nat) : sendLimitOfCode code = if 1 ≤ code ∧ code ≤ 4 then 8 * code else 16 := by
  match code with
  | 0 | 1 | 2 | 3 | 4 => rfl
  | n + 5 => rw [if_neg (by omega)]; rfl

theorem sendLimitOfCode_cases (code : Nat) :
    sendLimitOfCode code = 8 ∨ sendLimitOfCode code = 16 ∨ sendLimitOfCode code = 24 ∨ sendLimitOfCode code = 32 := by
  rw [sendLimitOfCode_eq]
  split <;> omega

/-- Settles O19: each field is `clampNat` of its bits, and R21 raises the detect timeout to the least exponent there is. -/
theorem storedRecordIsInRange : Obligations.StoredRecordIsInRange := by
  intro r c bits within n
  have hbits : recordField r = bits := by funext first width; exact recordField_eq r first width
  have hc : c = clampRecord r := rfl
  have hn : n ≤ 10 := Nat.min_le_left _ _
  have hbase : c.holdOffBase = clampNat 50 1000 (bits 118 10) := by rw [hc, ← hbits]; rfl
  have hbound : c.holdOffBase ≤ 1000 := by rw [hbase]; unfold clampNat; omega
  have hdetect : c.detectExp = raiseDetect c.holdOffBase 10 n := by rw [hc]; simp only [clampRecord, hbits]; rfl
  have hlimit : ∀ p, quadGet c.sendLimit p = sendLimitOfCode (bits (2 + 3 * pairIndex p) 3) := by
    intro p; rw [hc]; simp only [clampRecord, quadGet_quadOf, recordPairCode, hbits]
  have henabled : ∀ p, quadGet c.enabled p = (bits (2 + 3 * pairIndex p) 3 != 0) := by
    intro p; rw [hc]; simp only [clampRecord, quadGet_quadOf, recordPairCode, hbits]
  have hpow : c.holdOffBase < 2 ^ 10 := by omega
  obtain ⟨hle, hexp, _, hleast⟩ := raiseDetect_spec c.holdOffBase 10 n
    (hpow.trans_le (Nat.pow_le_pow_right (by decide) (by omega)))
  rw [← hdetect] at hle hexp hleast
  have hmax : c.maxRate = within 1 256 (bits 90 9) := by rw [hc, ← hbits]; rfl
  have hmin : c.minRate = within 1 c.maxRate (bits 99 9) := by rw [hc, ← hbits]; rfl
  refine ⟨by rw [hc, ← hbits]; rfl, fun p => ⟨by simp [henabled], by rw [hlimit, sendLimitOfCode_eq]⟩,
    by rw [hc, ← hbits]; rfl, by rw [hc, ← hbits]; rfl, by rw [hc, ← hbits]; rfl, hmax, hmin,
    by rw [hc, ← hbits]; rfl, by rw [hc, ← hbits]; rfl, by rw [hc, ← hbits]; rfl, by rw [hc, ← hbits]; rfl,
    by rw [hc, ← hbits]; rfl, ⟨hle, hexp, hleast⟩, ?_⟩
  have bound {lo hi x : Nat} (h : lo ≤ hi) : lo ≤ clampNat lo hi x ∧ clampNat lo hi x ≤ hi := by unfold clampNat; omega
  have ceiling : 1000 ≤ c.ceiling ∧ c.ceiling ≤ 1000000 := bound (by decide)
  have skip : 2000 ≤ c.skipTime ∧ c.skipTime ≤ 2000000 := bound (by decide)
  have limit : 1 ≤ c.holdLimit ∧ c.holdLimit ≤ 1000 := bound (by decide)
  have max : 1 ≤ c.maxRate ∧ c.maxRate ≤ 256 := bound (by decide)
  have min : 1 ≤ c.minRate ∧ c.minRate ≤ c.maxRate := bound max.1
  have errors : 1 ≤ c.errorThreshold ∧ c.errorThreshold ≤ 1000 := bound (by decide)
  have los : 10 ≤ c.losHold ∧ c.losHold ≤ 2000 := bound (by decide)
  have base : 50 ≤ c.holdOffBase ∧ c.holdOffBase ≤ 1000 := bound (by decide)
  exact ⟨ceiling.1, ceiling.2, skip.1, skip.2, limit.1, limit.2, min.1, min.2, max.2, errors.1, errors.2, los.1, los.2,
    base.1, base.2, hleast 10 hn hpow, Nat.min_le_left _ _, Nat.min_le_left _ _,
    fun p => by rw [hlimit]; exact sendLimitOfCode_cases _⟩

end Sys2Proof.Machine

namespace Sys2Proof.Machine

/-! ## What the commands of the bus do, one operation at a time

Every command of the bus is a run of the operations below. A law is shown to be kept by each operation, and so by every
command. -/

/-- The parts of the state that the laws of the bus port, the sequencer, the hold queue and the release controller read. -/
structure SameBus (s t : State) : Prop where
  slots : ∀ k, slotOf t.port k = slotOf s.port k
  onLine : t.port.onLine = s.port.onLine
  slotOpen : t.port.slotOpen = s.port.slotOpen
  latch : t.port.latch = s.port.latch
  mode : t.group.mode = s.group.mode
  record : t.group.record = s.group.record
  phase : t.sequencer.phase = s.sequencer.phase
  verdict : t.sequencer.verdict = s.sequencer.verdict
  bidding : t.sequencer.bidding = s.sequencer.bidding
  e : t.release.e = s.release.e
  skipTimer : t.release.skipTimer = s.release.skipTimer
  holdQueue : t.holdQueue = s.holdQueue
  lines : t.lines = s.lines
  number : t.group.number = s.group.number
  chainOut : t.group.chainOut = s.group.chainOut
  ns : s.sequencer.ns.isSome → t.sequencer.ns.isSome
  presence : PresenceLaw s → PresenceLaw t
  ring : RingLaw s → RingLaw t

/-- The station may place a block: it is ACTIVE, or its skip timer is not STOPPED, as only an ACTIVE station's is. -/
abbrev MayPlace (s : State) : Prop := isActive s = true ∨ s.release.skipTimer ≠ .stopped

/-- One operation of a command of the bus. -/
inductive BusOp : State → State → Prop
  | same {s t} (h : SameBus s t) : BusOp s t
  | placed {s k blk} (hk : k ≠ .claim) (ha : MayPlace s) (hn : k = .skip ∨ k = .release → NamesE s blk) :
      BusOp s (placeBlock k blk s)
  | withdrawn {s k} (hk : k ≠ .claim) : BusOp s (withdrawBlock k s)
  | timed {s x} (ha : MayPlace s ∨ x = .stopped) : BusOp s { s with release.skipTimer := x }
  | cleared {s} : BusOp s { s with port.onLine := none }
  | retried {s x} (hx : s.port.onLine = some x) (hretry : x.retry = true) (hfails : x.fails + 1 ≤ 3) (hk : x.kind ≠ .claim) :
      BusOp s { s with port := { setSlot s.port x.kind (some ⟨x.block, x.fails + 1⟩) with onLine := none } }
  | won {s k x} (hx : slotOf s.port k = some x) (hfree : s.port.onLine = none) (ha : isActive s = true)
      (hopen : k = .claim → s.port.slotOpen = true) :
      BusOp s { s with port := { setSlot s.port k none with onLine := some ⟨k, x.block, x.fails, true⟩ } }
  | lost {s} : BusOp s { s with port := setSlot s.port .claim none }
  | closed {s} (h : ownOnLine s.port .claim = false) : BusOp s (slotClosed s)
  | judged {s c o phase v b} (hc : c = none ∨ c = s.port.claim) (hphase : phase ≠ .idle) :
      BusOp s
        { s with
          port := { s.port with claim := c, latch := some o, slotOpen := true }
          sequencer := { s.sequencer with phase := phase, verdict := some v, bidding := b } }
  | claimed {s blk} (ha : isActive s = true) (hopen : s.port.slotOpen = true) (hpool : poolUsed s < Config.poolSlots)
      (hlimit : (line s (pairOfBits blk.pair)).queue.length < quadGet (config s).sendLimit (pairOfBits blk.pair)) :
      BusOp s (placeBlock .claim blk s)
  | delivered {s x f} (hx : s.port.onLine = some x) (hk : x.kind = .claim)
      (hin : inService (line s (pairOfBits x.block.pair)) = true) :
      BusOp s (slotClosed (modLine (pairOfBits x.block.pair) (appendFragment f) { s with port.onLine := none }))
  | removed {s q} : BusOp s (removeEntry q s)
  | rebased {s} : BusOp s { s with holdQueue.runaway := 0 }
  | arrived {s e x} (he : s.release.e = some e) : BusOp s { s with holdQueue := (classifyArrival e x s).holdQueue }
  | moved {s q b} (ha : isActive s = true) :
      BusOp s
        (withdrawBlock .rebase
          (withdrawBlock .skip (withdrawBlock .release (purge { s with release := { s.release with e := some q, broken := b } }))))

/-- A run of operations. -/
abbrev BusOps : State → State → Prop := Relation.ReflTransGen BusOp

theorem BusOps.keeps {P : State → Prop} (hP : ∀ s t, BusOp s t → P s → P t) {s t : State} (h : BusOps s t) (hs : P s) : P t := by
  induction h with
  | refl => exact hs
  | tail _ hop ih => exact hP _ _ hop ih

namespace BusOps

variable {s t v : State}

theorem op (h : BusOp s t) : BusOps s t := .single h

/-- What the laws read of the bus port is as it was. -/
theorem of_parts (hslots : ∀ k, slotOf t.port k = slotOf s.port k) (hline : t.port.onLine = s.port.onLine)
    (hopen : t.port.slotOpen = s.port.slotOpen) (hlatch : t.port.latch = s.port.latch) (hg : t.group = s.group)
    (hs : t.sequencer = s.sequencer) (hr : t.release = s.release) (hq : t.holdQueue = s.holdQueue) (hl : t.lines = s.lines)
    (hring : t.status.ring = s.status.ring) : BusOps s t :=
  op (.same ⟨hslots, hline, hopen, hlatch, by rw [hg], by rw [hg], by rw [hs], by rw [hs], by rw [hs], by rw [hr], by rw [hr], hq, hl,
    by rw [hg], by rw [hg], by rw [hs]; exact id, by unfold PresenceLaw; rw [hg]; exact id, by unfold RingLaw; rw [hring]; exact id⟩)

theorem of_port (hp : t.port = s.port) (hg : t.group = s.group) (hs : t.sequencer = s.sequencer) (hr : t.release = s.release)
    (hq : t.holdQueue = s.holdQueue) (hl : t.lines = s.lines) (hring : t.status.ring = s.status.ring) : BusOps s t :=
  of_parts (by simp [hp]) (by rw [hp]) (by rw [hp]) (by rw [hp]) hg hs hr hq hl hring

theorem countStation (f : StationCounters → StationCounters) (s : State) : BusOps s (countStation f s) :=
  of_port rfl rfl rfl rfl rfl rfl rfl

theorem blockEnded (s : State) : BusOps s (blockEnded s) :=
  of_parts (fun k => by cases k <;> rfl) rfl rfl rfl rfl rfl rfl rfl rfl rfl

theorem ite {c : Prop} [Decidable c] {a b : State} (ha : c → BusOps s a) (hb : ¬c → BusOps s b) :
    BusOps s (if c then a else b) := by
  split
  next h => exact ha h
  next h => exact hb h

theorem placeSkip (h : MayPlace s) : BusOps s (placeSkip s) := by
  obtain h' | ⟨k, e, _, he, h'⟩ := placeSkip_cases s
  · rw [h']
  · rw [h']
    exact op (.placed nofun h fun _ => by simp [NamesE, he])

theorem evidenceSkip (s : State) : BusOps s (evidenceSkip s) := by
  obtain h' | ⟨ha, _, _, _, h'⟩ := evidenceSkip_cases s
  · rw [h']
  · rw [h']
    exact placeSkip (.inl ha)

theorem tryRelease (s : State) : BusOps s (tryRelease s) := by
  obtain h' | ⟨k, h, _, _, _, ha, he, _, _, _, h'⟩ := tryRelease_cases s
  · rw [h']
  · rw [h']
    exact op (.placed nofun (.inl ha) fun _ => by simp [NamesE, he, releaseBlock])

theorem placeRebase (q : Seq) (s : State) : BusOps s (placeRebase q s) := by
  obtain h' | ⟨k, _, ha, h'⟩ := placeRebase_cases q s
  · rw [h']
  · rw [h']
    exact op (.placed nofun (.inl ha) (by simp))

theorem countLost_ring (s : State) : (Machine.countLost s).status.ring = s.status.ring := by
  unfold Machine.countLost
  split <;> rfl

theorem countLost (s : State) : BusOps s (countLost s) :=
  of_port (by simp) (by simp) (by simp) (by simp) (by simp) (by simp) (countLost_ring s)

theorem closeNoClaim (h : ownOnLine s.port .claim = false) : BusOps s (closeNoClaim s) := by
  have counted : BusOps s (if countsUnclaimed s.sequencer then
      Machine.countStation (fun c => { c with unclaimed := c.unclaimed + 1 }) (Machine.countLost s) else Machine.countLost s) :=
    ite (fun _ => (countLost s).trans (countStation _ _)) (fun _ => countLost s)
  refine counted.trans (op (.closed ?_))
  split <;> simpa using h

theorem closeByOther (s : State) : BusOps s (closeByOther s) := by
  obtain ⟨h, _⟩ | ⟨h, _, hline⟩ := closeByOther_cases s
  · rw [h]
  · rw [h]
    exact closeNoClaim hline

theorem closeByOther_blockEnded (s : State) : BusOps s (Machine.closeByOther (Machine.blockEnded s)) :=
  (blockEnded s).trans (closeByOther _)

theorem cleared (s : State) : BusOps s (Machine.blockEnded { s with port := { s.port with onLine := none } }) :=
  (op .cleared).trans (blockEnded _)

theorem observe {k : SlotKind} {o : Observed} {own : Bool} {blk : BusBlock} (h : observe k o s = some (own, blk, t)) :
    BusOps s t := by
  obtain ⟨_, _, x, _, _, _, rfl⟩ | ⟨_, _, _, rfl⟩ | ⟨_, _, _, rfl⟩ := observe_cases h
  · exact cleared s
  · exact blockEnded s
  · exact closeByOther_blockEnded s

/-! ### The release controller (R145, R150 to R157, R160) -/

theorem timed {x : SkipTimer} (h : MayPlace s ∨ x = .stopped) : BusOps s { s with release.skipTimer := x } := op (.timed h)

theorem moveE (q : Seq) (b : Bool) (h : isActive s = true) : BusOps s (moveE (setE q b s)) := by
  refine (op (.moved (q := q + 1) (b := b) h)).trans (.trans (timed ?_) ((tryRelease _).trans (evidenceSkip _)))
  left; left
  simpa [isActive] using h

theorem countEAdoption (q : Seq) (s : State) : BusOps s (countEAdoption q s) :=
  of_port (by unfold Machine.countEAdoption; split <;> rfl) (by simp) (by simp) (by simp) (by simp) (by simp)
    (by unfold Machine.countEAdoption; split <;> rfl)

theorem adoptedMove (q q' : Seq) (b : Bool) (h : isActive s = true) :
    BusOps s (Machine.moveE (setE q b (Machine.countEAdoption q' s))) :=
  (countEAdoption q' s).trans (moveE q b (by simpa [isActive] using h))

theorem releaseActive (own : Bool) (blk : BusBlock) (h : isActive s = true) : BusOps s (releaseActive own blk s) := by
  cases own with
  | true => exact ((op .removed).trans (countStation _ _)).trans (adoptedMove _ _ _ (by simpa using h))
  | false => exact adoptedMove _ _ _ h

theorem skipActive (own : Bool) (blk : BusBlock) (h : isActive s = true) : BusOps s (skipActive own blk s) := by
  cases own <;> exact (countStation _ s).trans (adoptedMove _ _ _ (by simpa using h))

theorem rebaseActive (own : Bool) (blk : BusBlock) (h : isActive s = true) : BusOps s (rebaseActive own blk s) := by
  cases own <;> exact ((countStation _ s).trans (op .rebased)).trans (moveE _ _ (by simpa [isActive] using h))

theorem joined (f : JoinValues → JoinValues) (s : State) : BusOps s (modJoin f s) :=
  op (.same ⟨fun _ => rfl, rfl, rfl, rfl, rfl, rfl, rfl, rfl, rfl, rfl, rfl, rfl, rfl, rfl, rfl, id, id, id⟩)

theorem holdTurnsOn (h : isActive s = true) : BusOps s (holdTurnsOn s) :=
  ((op (.withdrawn (k := .release) nofun)).trans (op (.withdrawn (k := .skip) nofun))).trans
    (timed (.inl (.inl (by simpa using h))))

theorem holdTurnsOff (h : isActive s = true) : BusOps s (holdTurnsOff s) := by
  have hactive : isActive (Machine.tryRelease s) = true := by simpa [isActive] using h
  unfold Machine.holdTurnsOff
  refine (tryRelease s).trans (.trans ?_ (evidenceSkip _))
  dsimp only
  split
  · exact (timed (.inl (.inl hactive))).trans (placeSkip (.inl hactive))
  · exact timed (.inl (.inl hactive))
  · exact .refl

theorem applyHoldOn (s : State) : BusOps s (applyHoldOn s) := by
  refine .trans (b := if isActive s && !s.release.hold then Machine.holdTurnsOn s else s) (ite (fun h => holdTurnsOn ?_) fun _ => .refl)
    (op (.same ⟨fun _ => rfl, rfl, rfl, rfl, rfl, rfl, rfl, rfl, rfl, rfl, rfl, rfl, rfl, rfl, rfl, id, id, id⟩))
  exact (Bool.and_eq_true_iff.mp h).1

theorem applyHoldOff (s : State) : BusOps s (applyHoldOff s) := by
  have off : BusOps s { s with release := { s.release with hold := false, holdTimer := .stopped } } :=
    op (.same ⟨fun _ => rfl, rfl, rfl, rfl, rfl, rfl, rfl, rfl, rfl, rfl, rfl, rfl, rfl, rfl, rfl, id, id, id⟩)
  exact ite (fun h => off.trans (holdTurnsOff h)) (fun _ => off)

/-! ### A block that failed (R8, R10, R11) -/

theorem releaseDropped (blk : BusBlock) (s : State) : BusOps s (releaseDropped blk s) := by
  refine (op .removed).trans (.trans (ite (fun h => timed ?_) fun _ => .refl) (evidenceSkip _))
  exact .inl (.inl (Bool.and_eq_true_iff.mp h).1)

theorem skipDropped (s : State) : BusOps s (skipDropped s) := by
  refine .trans (ite (fun h => timed ?_) fun _ => .refl) (evidenceSkip _)
  simp only [Bool.and_eq_true] at h
  exact .inl (.inl h.1.1)

theorem blockDropped (x : OnLine) (s : State) : BusOps s (blockDropped x s) := by
  refine (countStation (fun c => { c with droppedBlocks := satInc c.droppedBlocks }) s).trans ?_
  unfold Machine.blockDropped
  dsimp only
  split
  · exact releaseDropped _ _
  · exact skipDropped _
  · exact .refl

theorem aborted (s : State) : BusOps s (aborted s) :=
  (op .cleared).trans (of_parts (fun k => by cases k <;> rfl) rfl rfl rfl rfl rfl rfl rfl rfl rfl)

theorem attemptFailed {x : OnLine} (hx : s.port.onLine = some x) (hk : x.kind ≠ .claim) :
    BusOps s (attemptFailed x (Machine.aborted s)) := by
  unfold Machine.attemptFailed
  split
  · exact aborted s
  · split
    · exact (aborted s).trans (ite (fun _ => tryRelease _) fun _ => .refl)
    next hretry =>
      split
      · exact (aborted s).trans (blockDropped x _)
      next hfails =>
        refine (op (.retried hx (by simpa using hretry) ?_ hk)).trans
          (of_parts (fun k => ?_) ?_ ?_ ?_ rfl rfl rfl rfl rfl rfl)
        · simp only [Config.maxFails] at hfails; omega
        · cases k <;> cases x.kind <;> rfl
        all_goals simp [Machine.aborted]

end BusOps

end Sys2Proof.Machine

namespace Sys2Proof.Machine

namespace BusOps

variable {s t : State}

/-! ### The other blocks and queries -/

theorem placeReply {item : Byte} {blk : BusBlock} {c : Option (List Byte)} (h : isActive s = true) :
    BusOps s (placeReply item blk c s) := by
  unfold Machine.placeReply
  split
  · exact .refl
  · exact op (.placed nofun (.inl h) (by simp))

theorem isActive_of_queryTaken {blk : BusBlock} (h : queryTaken blk s = true) : isActive s = true := by
  simp only [queryTaken, Bool.and_eq_true] at h
  exact h.1.2

theorem answerQuery (item : Byte) (blk : BusBlock) (c : State → Option (List Byte)) (s : State) :
    BusOps s (answerQuery item blk c s) :=
  (closeByOther_blockEnded s).trans (ite (fun h => placeReply (isActive_of_queryTaken h)) fun _ => .refl)

theorem setFreeze (flag : Bool) (item : Byte) (blk : BusBlock) (s : State) : BusOps s (setFreeze flag item blk s) :=
  (closeByOther_blockEnded s).trans
    (ite (fun h => .trans (b := { Machine.closeByOther (Machine.blockEnded s) with status.frozen := flag })
      (of_port rfl rfl rfl rfl rfl rfl rfl)
      (placeReply (by simpa [isActive] using isActive_of_queryTaken h))) fun _ => .refl)

/-- Where nothing but the status unit and the presence table changed. -/
theorem of_table (hp : t.port = s.port) (hg : t.group = { s.group with table := t.group.table }) (hs : t.sequencer = s.sequencer)
    (hr : t.release = s.release) (hq : t.holdQueue = s.holdQueue) (hl : t.lines = s.lines)
    (hpresence : PresenceLaw s → PresenceLaw t) (hring : RingLaw s → RingLaw t) : BusOps s t :=
  op (.same ⟨by simp [hp], by rw [hp], by rw [hp], by rw [hp], by rw [hg], by rw [hg], by rw [hs], by rw [hs], by rw [hs],
    by rw [hr], by rw [hr], hq, hl, by rw [hg], by rw [hg], by rw [hs]; exact id, hpresence, hring⟩)

/-- The ranges of one entry of the presence table. -/
abbrev EntryRanges (t : PeerEntry) : Prop := t.heard ≤ 15 ∧ t.missed ≤ 15 ∧ t.capacity ≤ 1024

theorem presenceLaw_iff (s : State) : PresenceLaw s ↔ ∀ k, EntryRanges (stationGet s.group.table k) :=
  ⟨fun ⟨h0, h1, h2, h3, h4, h5⟩ k => by cases k <;> assumption, fun h => ⟨h .n0, h .n1, h .n2, h .n3, h .n4, h .n5⟩⟩

/-- An entry replaced by one in its ranges. -/
theorem presenceLaw_set {k : StationNo} {x : PeerEntry} (ht : t.group.table = stationSet s.group.table k x)
    (hx : EntryRanges (stationGet s.group.table k) → EntryRanges x) (h : PresenceLaw s) : PresenceLaw t := by
  rw [presenceLaw_iff] at h ⊢
  intro j
  rw [ht]
  by_cases hj : j = k
  · subst hj
    rw [stationGet_stationSet_same]
    exact hx (h j)
  · rw [stationGet_stationSet_other _ _ hj]
    exact h j

theorem intervalEntry_ranges {x : PeerEntry} (h : EntryRanges x) : EntryRanges (intervalEntry x) := by
  obtain ⟨hheard, hmissed, hcapacity⟩ := h
  unfold intervalEntry inc15
  dsimp only
  split
  · exact ⟨hheard, hmissed, hcapacity⟩
  · split <;> refine ⟨Nat.zero_le _, Nat.min_le_left _ _, ?_⟩
    · exact Nat.zero_le _
    · exact hcapacity

theorem heardEntry_ranges (blk : BusBlock) (x : PeerEntry) : EntryRanges (heardEntry blk x) :=
  ⟨Nat.min_le_left _ _, Nat.zero_le _, Nat.min_le_left _ _⟩

theorem ringLaw_recordEvent (kind : EventKind) (a b : Nat) (h : RingLaw s) : RingLaw (recordEvent kind a b s) :=
  recordEvent_ring kind a b s h

theorem intervalPeer (s : State) (k : StationNo) : BusOps s (intervalPeer s k) := by
  unfold Machine.intervalPeer
  split
  · exact .refl
  · dsimp only
    split
    · exact of_table (by simp) (by simp) (by simp) (by simp) (by simp) (by simp)
        (presenceLaw_set (k := k) (by simp) intervalEntry_ranges) fun h => ringLaw_recordEvent _ _ _ h
    · exact of_table rfl rfl rfl rfl rfl rfl (presenceLaw_set rfl intervalEntry_ranges) id

theorem presenceUpdate (s : State) : BusOps s (presenceUpdate s) :=
  ((((((intervalPeer s .n0).trans (intervalPeer _ .n1)).trans (intervalPeer _ .n2)).trans (intervalPeer _ .n3)).trans
    (intervalPeer _ .n4)).trans (intervalPeer _ .n5))

theorem markHeard (k : StationNo) (blk : BusBlock) (s : State) : BusOps s (markHeard k blk s) := by
  have ranges {b : Bool} (_ : EntryRanges (stationGet s.group.table k)) :
      EntryRanges { heardEntry blk (stationGet s.group.table k) with present := b } := heardEntry_ranges blk _
  unfold Machine.markHeard
  refine .trans (ite (fun _ => ?_) fun _ => ?_) (ite (fun _ => evidenceSkip _) fun _ => .refl)
  · exact of_table (by simp) (by simp) (by simp) (by simp) (by simp) (by simp)
      (presenceLaw_set (k := k) (by rw [recordEvent_group]) ranges) fun h => ringLaw_recordEvent _ _ _ h
  · exact of_table rfl rfl rfl rfl rfl rfl (presenceLaw_set rfl ranges) id

theorem joinMark (k : StationNo) (blk : BusBlock) (s : State) : BusOps s (joinMark k blk s) :=
  op (.same ⟨fun _ => rfl, rfl, rfl, rfl, rfl, rfl, rfl, rfl, rfl, rfl, rfl, rfl, rfl, rfl, rfl, id, id, id⟩)

/-! ### The claim slot (R12 to R14, R37 to R47) -/

/-- R37 to R41: an offer latched and judged: what was there of an earlier slot is replaced. -/
theorem judgeOffer {z : State} {c : Option PendingBlock} {o : LatchedOffer} (hc : c = none ∨ c = s.port.claim)
    (hp : (latchOffer o z).port = { s.port with claim := c, latch := some o, slotOpen := true }) (hg : z.group = s.group)
    (hr : z.release = s.release) (hq : z.holdQueue = s.holdQueue) (hl : z.lines = s.lines)
    (hn : s.sequencer.ns.isSome → z.sequencer.ns.isSome) (hring : z.status.ring = s.status.ring) : BusOps s (judgeOffer o (latchOffer o z)) := by
  have judged {phase : ClaimPhase} {v : OfferVerdict} {b : Option Bidding} (hphase : phase ≠ .idle) :
      BusOps s (setJudged phase v b (latchOffer o z)) :=
    (op (.judged (o := o) (v := v) (b := b) hc hphase)).trans
      (op (.same ⟨by simp [setJudged, hp], by simp [setJudged, hp], by simp [setJudged, hp], by simp [setJudged, hp],
        congrArg _ hg, congrArg _ hg, rfl, rfl, rfl, congrArg _ hr, congrArg _ hr, hq, hl, congrArg _ hg, congrArg _ hg, hn,
        by unfold PresenceLaw; rw [show (setJudged phase v b (latchOffer o z)).group = s.group from hg]; exact id,
        by unfold RingLaw; rw [show (setJudged phase v b (latchOffer o z)).status.ring = s.status.ring from hring]; exact id⟩))
  unfold Machine.judgeOffer
  split
  next h _ _ =>
    split
    next ha =>
      unfold judgeActive
      dsimp only
      split
      next cand k ns hcand _ _ =>
        have best := bestOf_bestAmong h.length (latchOffer o z) allPairs (by decide)
        rw [show bestOf _ _ allPairs = some cand from hcand] at best
        obtain ⟨_, hel, _⟩ := best
        obtain ⟨_, _, hlimit, hpool, _⟩ := (eligiblePair_iff _ _ _).mp hel
        refine .trans (b := setJudged .claiming .wellFormed (some (biddingFor h.length (latchOffer o z))) (latchOffer o z))
          (judged nofun) (op (.claimed (blk := claimBlock k ns h.length cand) ha rfl hpool ?_))
        simpa [claimBlock] using hlimit
      · exact judged nofun
    · exact judged nofun
  · exact (judged (phase := .watching) (v := .malformed) (b := none) nofun).trans (of_port rfl rfl rfl rfl rfl rfl rfl)

theorem closeNoClaim_ring (s : State) : (Machine.closeNoClaim s).status.ring = s.status.ring := by
  unfold Machine.closeNoClaim
  dsimp only
  split <;> exact countLost_ring s

theorem offered_open {x : State} (h : BusOps s x) (o : LatchedOffer) :
    BusOps s (Machine.judgeOffer o (latchOffer o (Machine.closeNoClaim x))) := by
  refine h.trans (judgeOffer (.inl rfl) ?_ (by simp) (by simp) (by simp) (by simp) (by simp) (closeNoClaim_ring x))
  unfold latchOffer Machine.closeNoClaim Machine.slotClosed Machine.sequencerIdle
  dsimp only
  split <;> simp

theorem offered_closed {x : State} (h : BusOps s x) (o : LatchedOffer) :
    BusOps s (Machine.judgeOffer o (latchOffer o x)) :=
  h.trans (judgeOffer (.inr rfl) rfl rfl rfl rfl rfl id rfl)

/-! ### The commands as runs of operations -/

/-- R8, R9, R13: what contends is a pending block of an ACTIVE station, a CLAIM in an open claim slot alone. -/
theorem of_contender {k : SlotKind} {x : PendingBlock} (h : contender s = some (k, x)) :
    isActive s = true ∧ slotOf s.port k = some x ∧ (k = .claim → s.port.slotOpen = true) := by
  unfold contender at h
  split at h
  · cases h
  next ha =>
    split at h
    next hopen =>
      obtain ⟨y, hy, h⟩ := Option.map_eq_some_iff.mp h
      cases h
      exact ⟨by simpa using ha, hy, fun _ => hopen⟩
    · obtain ⟨j, hj, h⟩ := List.exists_of_findSome?_eq_some h
      obtain ⟨y, hy, h⟩ := Option.map_eq_some_iff.mp h
      cases h
      exact ⟨by simpa using ha, hy, fun hk => absurd hj (by simp [hk])⟩

theorem of_exec {c : Instr} {s t : State} (hp : pairOf c = none) (hc : movesStation c = false) (h : exec c s = .next t) :
    BusOps s t := by
  have isActive_of_mode {s : State} (h : s.group.mode = .active) : isActive s = true := by simp [isActive, h]
  have moves {c : Instr} {o : Observed} (hc : c = .release o ∨ c = .skip o ∨ c = .rebase o) (h : exec c s = .next t) :
      BusOps s t := by
    obtain rfl | ⟨k, own, blk, s', hobs, _, h⟩ := exec_moving_cases hc h
    · exact .refl
    refine (observe hobs).trans ?_
    obtain rfl | ⟨_, rfl⟩ | ⟨hm, rfl | rfl | rfl⟩ := h
    · exact .refl
    · exact joined _ _
    · exact releaseActive own blk (isActive_of_mode hm)
    · exact skipActive own blk (isActive_of_mode hm)
    · exact rebaseActive own blk (isActive_of_mode hm)
  cases c <;> first | (cases hp; done) | (cases hc; done) | skip
  case release o => exact moves (.inl rfl) h
  case skip o => exact moves (.inr (.inl rfl)) h
  case rebase o => exact moves (.inr (.inr rfl)) h
  case busIdleContend others =>
    obtain rfl | ⟨hfree, buffer, rfl | ⟨k, x, hx, rfl | ⟨rfl, rfl⟩⟩⟩ := exec_busIdleContend_cases h
    · exact .refl
    · exact of_parts (fun k => by cases k <;> rfl) rfl rfl rfl rfl rfl rfl rfl rfl rfl
    · obtain ⟨ha, hslot, hopen⟩ := of_contender hx
      have hline : s.port.onLine = none := by simp only [lineTaken] at hfree; cases hl : s.port.onLine <;> simp_all
      exact (op (.won hslot hline ha hopen)).trans
        (of_parts (fun j => by cases j <;> rfl) rfl rfl rfl rfl rfl rfl rfl rfl rfl)
    · exact (op .lost).trans (of_parts (fun j => by cases j <;> rfl) rfl rfl rfl rfl rfl rfl rfl rfl rfl)
  case sendAbort =>
    obtain rfl | ⟨x, hx, ⟨_, ⟨_, rfl⟩ | ⟨_, rfl⟩⟩ | ⟨hk, rfl⟩⟩ := exec_sendAbort_cases h
    · exact .refl
    · exact (aborted s).trans (closeNoClaim rfl)
    · exact aborted s
    · exact attemptFailed hx hk
  case offer blk =>
    have ended (f : StationCounters → StationCounters) : BusOps s (Machine.countStation f (Machine.blockEnded s)) :=
      (blockEnded s).trans (countStation f _)
    obtain rfl | ⟨f, g, rfl⟩ | ⟨f, o, ⟨_, rfl⟩ | ⟨_, rfl⟩⟩ := exec_offer_cases h
    · exact closeByOther_blockEnded s
    · exact (ended g).trans (countStation f _)
    · exact offered_open (ended f) o
    · exact offered_closed (ended f) o
  all_goals obtain rfl := Host.Outcome.next.inj h
  case busRelease =>
    exact ite (fun _ => op (.same ⟨fun k => by cases k <;> rfl, rfl, rfl, rfl, rfl, rfl, rfl, rfl, rfl, rfl, rfl, rfl, rfl, rfl, rfl, id, id, id⟩))
      fun _ => .refl
  case badBlock cause =>
    refine .trans ?_ (closeByOther _)
    exact of_parts (fun k => by cases k <;> rfl) rfl rfl rfl rfl rfl rfl rfl rfl rfl
  case claimSlotTimeout =>
    refine ite (fun h => closeNoClaim ?_) fun _ => .refl
    simp only [lineTaken, Bool.and_eq_true, Bool.not_eq_true', Bool.or_eq_false_iff, Option.isSome_eq_false_iff,
      Option.isNone_iff_eq_none] at h
    simp [ownOnLine, h]
  case holdOn blk => exact (closeByOther_blockEnded s).trans (ite (fun _ => applyHoldOn _) fun _ => .refl)
  case holdOff blk => exact (closeByOther_blockEnded s).trans (ite (fun _ => applyHoldOff _) fun _ => .refl)
  case replyObserved o =>
    split
    · exact .refl
    next hobs => exact observe hobs
  case snapshot blk =>
    exact (closeByOther_blockEnded s).trans (ite (fun _ => of_port rfl rfl rfl rfl rfl rfl rfl) fun _ => .refl)
  case beaconExpiry =>
    split
    · exact .refl
    next k _ =>
      refine ite (fun h => ?_) fun _ => .refl
      have placed : BusOps s (placeBlock .mark (markBlock k s) s) :=
        op (.placed nofun (.inl (Bool.and_eq_true_iff.mp h).1) (by simp))
      have beacon (x : State) : BusOps x { x with group.beacon := .running Config.beaconPeriod } :=
        op (.same ⟨fun _ => rfl, rfl, rfl, rfl, rfl, rfl, rfl, rfl, rfl, rfl, rfl, rfl, rfl, rfl, rfl, id, id, id⟩)
      exact ((placed.trans (beacon _)).trans (presenceUpdate _)).trans (ite (fun _ => evidenceSkip _) fun _ => .refl)
  case skipTimerExpiry =>
    split
    next hr =>
      have running : s.release.skipTimer ≠ .stopped := by simp [hr]
      exact (timed (.inl (.inr running))).trans (placeSkip (.inr nofun))
    · exact .refl
  case holdLimitExpiry => exact ite (fun _ => (countStation _ s).trans (applyHoldOff _)) fun _ => .refl
  case ringFreeze blk => exact setFreeze _ _ _ _
  case ringThaw blk => exact setFreeze _ _ _ _
  all_goals exact answerQuery _ _ _ _

/-- What moving NS leaves as it was. -/
theorem claimNs_parts (own : Bool) (q : Seq) (s : State) :
    ∃ ns c j, (s.sequencer.ns.isSome → ns.isSome) ∧
      claimNs own q s = { s with sequencer.ns := ns, status.live.station := c, group.join := j } := by
  have adopted (s : State) : ∃ c, adoptNs q s = { s with sequencer.ns := some (q + 1), status.live.station := c } := by
    unfold adoptNs
    dsimp only
    split
    · exact ⟨s.status.live.station, rfl⟩
    · exact ⟨_, rfl⟩
  obtain ⟨c, h⟩ := adopted s
  unfold claimNs
  split
  · exact ⟨_, c, s.group.join, fun _ => rfl, h⟩
  · split
    · exact ⟨_, c, s.group.join, fun _ => rfl, h⟩
    · exact ⟨s.sequencer.ns, s.status.live.station, s.group.join, id, rfl⟩
  · exact ⟨s.sequencer.ns, s.status.live.station, _, id, rfl⟩
  · exact ⟨s.sequencer.ns, s.status.live.station, s.group.join, id, rfl⟩

theorem claimNs (own : Bool) (q : Seq) (s : State) : BusOps s (claimNs own q s) := by
  obtain ⟨ns, c, j, hns, h⟩ := claimNs_parts own q s
  rw [h]
  exact op (.same ⟨fun _ => rfl, rfl, rfl, rfl, rfl, rfl, rfl, rfl, rfl, rfl, rfl, rfl, rfl, rfl, rfl, hns, id, id⟩)

/-- R45: the own CLAIM, off the line, closes its slot with the fragment handed over, or with none. -/
theorem closeWon {x : OnLine} (hx : s.port.onLine = some x) (hk : x.kind = .claim) (own : Bool) (q : Seq) :
    BusOps s (closeWon (pairOfBits x.block.pair) q
      (Machine.claimNs own q (Machine.blockEnded { s with port := { s.port with onLine := none } }))) := by
  obtain ⟨ns, c, j, hns, h⟩ := claimNs_parts own q (Machine.blockEnded { s with port := { s.port with onLine := none } })
  rw [h]
  unfold Machine.closeWon deliverWon
  dsimp only
  split
  · exact (op .cleared).trans ((op (.closed rfl)).trans
      (op (.same ⟨fun k => by cases k <;> rfl, rfl, rfl, rfl, rfl, rfl, rfl, rfl, rfl, rfl, rfl, rfl, rfl, rfl, rfl, hns, id, id⟩)))
  · split
    next f _ hin =>
      exact (op (.delivered (f := f) hx hk hin)).trans
        (op (.same ⟨fun k => by cases k <;> rfl, rfl, rfl, rfl, rfl, rfl, rfl, rfl, rfl, rfl, rfl, rfl, rfl, rfl, rfl, hns, id, id⟩))
    · exact (op .cleared).trans ((op (.closed rfl)).trans
        (op (.same ⟨fun k => by cases k <;> rfl, rfl, rfl, rfl, rfl, rfl, rfl, rfl, rfl, rfl, rfl, rfl, rfl, rfl, rfl, hns, id, id⟩)))

theorem of_exec_claim {o : Observed} (h : exec (.claim o) s = .next t) : BusOps s t := by
  obtain rfl | ⟨own, blk, s', hobs, h⟩ := exec_claim_cases h
  · exact .refl
  have seen := observe hobs
  obtain rfl | ⟨q, rfl | ⟨hown, _, rfl⟩ | ⟨_, _, hline, rfl⟩⟩ := h
  · exact seen.trans (closeByOther _)
  · exact seen.trans (claimNs _ _ _)
  · obtain ⟨_, _, x, hx, hk, rfl, rfl⟩ | ⟨_, h, _⟩ | ⟨_, h, _⟩ := observe_cases hobs
    · exact closeWon hx hk own q
    · exact absurd (h.symm.trans hown) nofun
    · exact absurd (h.symm.trans hown) nofun
  · refine seen.trans ((claimNs own q s').trans ((countLost _).trans (op (.closed ?_))))
    obtain ⟨ns, c, j, hns, h⟩ := claimNs_parts own q s'
    simpa [h] using hline

/-- An observed MARK that makes no conflict. -/
theorem of_exec_mark {o : Observed} (h : exec (.mark o) s = .next t) :
    BusOps s t ∨ ∃ s', BusOps s s' ∧ (s'.group.mode = .listening ∨ s'.group.mode = .active) ∧ t = enterConflict s' := by
  obtain rfl | ⟨own, blk, s', hobs, h⟩ := exec_mark_cases h
  · exact .inl .refl
  have seen := observe hobs
  obtain rfl | ⟨k, _, hm, rfl⟩ | ⟨k, _, rfl⟩ | ⟨k, _, _, rfl⟩ := h
  · exact .inl seen
  · exact .inr ⟨s', seen, hm, rfl⟩
  · exact .inl (seen.trans (joinMark _ _ _))
  · exact .inl (seen.trans (markHeard _ _ _))

/-! ### The arrival at the hold queue (R131 to R133, R138, R152) -/

theorem runawayUp_port (q : Seq) (s : State) :
    (runawayUp q s).port = s.port ∨
      isActive s = true ∧ ∃ blk, (runawayUp q s).port = (placeBlock .rebase blk s).port := by
  unfold runawayUp
  split
  · obtain h | ⟨k, _, ha, h⟩ := placeRebase_cases q { s with holdQueue.runaway := 0 }
    · exact .inl (by rw [h])
    · exact .inr ⟨ha, _, by rw [h]; rfl⟩
  · exact .inl rfl

theorem classifyArrival_port (e : Seq) (x : HoldEntry) (s : State) :
    (classifyArrival e x s).port = s.port ∨
      isActive s = true ∧ ∃ blk, (classifyArrival e x s).port = (placeBlock .rebase blk s).port := by
  unfold Machine.classifyArrival
  split
  · exact runawayUp_port _ _
  · split
    · exact runawayUp_port _ _
    · left
      (repeat' split)
      · rfl
      · rfl
      · exact storeAtFull_port e x s

theorem classifyArrival_ring (e : Seq) (x : HoldEntry) (s : State) :
    (Machine.classifyArrival e x s).status.ring = s.status.ring := by
  unfold Machine.classifyArrival storeAtFull
  dsimp only
  (repeat' split) <;> first | rfl | (simp; rfl)

theorem classifyArrival {e : Seq} {x : HoldEntry} (he : s.release.e = some e) : BusOps s (classifyArrival e x s) := by
  have arrived : BusOps s { s with holdQueue := (Machine.classifyArrival e x s).holdQueue } := op (.arrived he)
  obtain h | ⟨ha, blk, h⟩ := classifyArrival_port e x s
  · exact arrived.trans (of_port h (by simp) (by simp) (by simp) rfl (by simp) (classifyArrival_ring e x s))
  · exact (arrived.trans (op (.placed (k := .rebase) (blk := blk) nofun (.inl ha) (by simp)))).trans
      (of_port h (by simp) (by simp) (by simp) rfl (by simp) (classifyArrival_ring e x s))

theorem holdArrival {x : HoldEntry} (h : isActive s = true) : BusOps s (holdArrival x s) := by
  unfold Machine.holdArrival
  split
  · exact .refl
  next e he =>
    have hactive : isActive (Machine.classifyArrival e x s) = true := by simpa [isActive] using h
    refine (classifyArrival (x := x) he).trans (.trans (b := skipTimerAtArrival (waiting s) (Machine.classifyArrival e x s)) ?_
      ((tryRelease _).trans (evidenceSkip _)))
    unfold skipTimerAtArrival
    split
    · exact timed (.inl (.inl hactive))
    · split
      · exact (timed (.inr rfl)).trans (op (.withdrawn nofun))
      · exact .refl

end BusOps

end Sys2Proof.Machine

namespace Sys2Proof.Machine

/-! ## Laws that every step keeps -/

/-- The state right after a bus reset. -/
def busResetState (s : State) : State :=
  { s with
    port := { BusPort.reset with dominant := true }
    group := busResetGroup s.group
    sequencer := .reset
    lines := quadOf (fun p => busResetLine (quadGet (config s).enabled p))
    holdQueue := .reset
    release := .reset
    status := .reset
    timeBase := 0 }

/-- From `A`, each of these leads to `P`: a microsecond, the moves of a line unit, the operations of the bus, and the commands
that change the mode. -/
structure Leads (A P : State → Prop) : Prop where
  waits : ∀ s rest, A s → P { s with pending := rest }
  tick : ∀ s, A s → P (tick s)
  pair : ∀ p s t, PairStep p s t → A s → P t
  bus : ∀ s t, BusOp s t → A s → P t
  pinReset : ∀ rest, P { State.reset with pending := rest }
  busReset : ∀ s, A s → P (busResetState s)
  reading : ∀ s x, s.group.mode = .waiting → A s → P { s with group := { s.group with mode := .reading, readTimer := x } }
  stored : ∀ s r d, s.group.mode = .reading → ((∃ bits, r = clampRecord bits) ∨ r = .defaults) → A s → P (storeRecord r d s)
  active : ∀ s k, s.group.mode = .listening → A s → P (enterActive k s)
  spare : ∀ s, s.group.mode = .listening → A s → P (enterSpare s)
  conflict : ∀ s, s.group.mode = .listening ∨ s.group.mode = .active → A s → P (enterConflict s)

theorem Leads.mono {A B P : State → Prop} (h : Leads B P) (hAB : ∀ s, A s → B s) : Leads A P where
  waits s rest hs := h.waits s rest (hAB s hs)
  tick s hs := h.tick s (hAB s hs)
  pair p s t step hs := h.pair p s t step (hAB s hs)
  bus s t hop hs := h.bus s t hop (hAB s hs)
  pinReset := h.pinReset
  busReset s hs := h.busReset s (hAB s hs)
  reading s x hm hs := h.reading s x hm (hAB s hs)
  stored s r d hm hr hs := h.stored s r d hm hr (hAB s hs)
  active s k hm hs := h.active s k hm (hAB s hs)
  spare s hm hs := h.spare s hm (hAB s hs)
  conflict s hm hs := h.conflict s hm (hAB s hs)

theorem Leads.imp {A P Q : State → Prop} (h : Leads A P) (hPQ : ∀ s, P s → Q s) : Leads A Q where
  waits s rest hs := hPQ _ (h.waits s rest hs)
  tick s hs := hPQ _ (h.tick s hs)
  pair p s t step hs := hPQ _ (h.pair p s t step hs)
  bus s t hop hs := hPQ _ (h.bus s t hop hs)
  pinReset rest := hPQ _ (h.pinReset rest)
  busReset s hs := hPQ _ (h.busReset s hs)
  reading s x hm hs := hPQ _ (h.reading s x hm hs)
  stored s r d hm hr hs := hPQ _ (h.stored s r d hm hr hs)
  active s k hm hs := hPQ _ (h.active s k hm hs)
  spare s hm hs := hPQ _ (h.spare s hm hs)
  conflict s hm hs := hPQ _ (h.conflict s hm hs)

theorem Leads.and {A P Q : State → Prop} (h : Leads A P) (h' : Leads A Q) : Leads A (fun s => P s ∧ Q s) where
  waits s rest hs := ⟨h.waits s rest hs, h'.waits s rest hs⟩
  tick s hs := ⟨h.tick s hs, h'.tick s hs⟩
  pair p s t step hs := ⟨h.pair p s t step hs, h'.pair p s t step hs⟩
  bus s t hop hs := ⟨h.bus s t hop hs, h'.bus s t hop hs⟩
  pinReset rest := ⟨h.pinReset rest, h'.pinReset rest⟩
  busReset s hs := ⟨h.busReset s hs, h'.busReset s hs⟩
  reading s x hm hs := ⟨h.reading s x hm hs, h'.reading s x hm hs⟩
  stored s r d hm hr hs := ⟨h.stored s r d hm hr hs, h'.stored s r d hm hr hs⟩
  active s k hm hs := ⟨h.active s k hm hs, h'.active s k hm hs⟩
  spare s hm hs := ⟨h.spare s hm hs, h'.spare s hm hs⟩
  conflict s hm hs := ⟨h.conflict s hm hs, h'.conflict s hm hs⟩

/-- A law that each of these keeps, and so every step. -/
abbrev Kept (P : State → Prop) : Prop := Leads P P

theorem Leads.exec {P : State → Prop} (hP : Kept P) {c : Instr} {s t : State} (h : exec c s = .next t) (hs : P s) : P t := by
  have ops {s t : State} (h : BusOps s t) (hs : P s) : P t := h.keeps hP.bus hs
  obtain ⟨p, hp, hf⟩ | ⟨p, f, rfl⟩ | ⟨hp, hm⟩ | rfl | rfl | rfl | hc | ⟨o, rfl⟩ | ⟨o, rfl⟩ := command_kinds c
  · exact hP.pair p s t (exec_pairStep hp hf h) hs
  · obtain step | ⟨s', step, ha, rfl⟩ := exec_frag_cases h
    · exact hP.pair p s t step hs
    · exact ops (.holdArrival ha) (hP.pair p s s' step hs)
  · exact ops (.of_exec hp hm h) hs
  · rw [pinReset_eq h]
    exact hP.pinReset s.pending
  · rw [busReset_eq h]
    exact hP.busReset s hs
  · obtain rfl | ⟨hm, ⟨k, rfl⟩ | rfl⟩ := exec_listeningPeriodEnd_cases h
    · exact hs
    · exact hP.active s k hm hs
    · exact hP.spare s hm hs
  · obtain rfl | ⟨hm, rfl⟩ | ⟨hm, _, r, d, hr, rfl⟩ := exec_start_cases hc h
    · exact hs
    · exact hP.reading s _ hm hs
    · exact hP.stored s r d hm hr hs
  · obtain hops | ⟨s', hops, hm, rfl⟩ := BusOps.of_exec_mark h
    · exact ops hops hs
    · exact hP.conflict s' hm (ops hops hs)
  · exact ops (.of_exec_claim h) hs

theorem Leads.step {P : State → Prop} (hP : Kept P) {s t : State} (hs : P s) (h : step s = .next t) : P t := by
  unfold Machine.step at h
  split at h
  · obtain rfl := Host.Outcome.next.inj h
    exact hP.tick s hs
  · exact hP.exec h (hP.waits s _ hs)

/-! ### The hold queue (R127, R132, R136, R138) -/

/-- Two numbers at E or in window of an old and of a new E stand in the same order from both. -/
theorem seqDist_order (e e' x y : Seq) (hx : seqDist e x < 1024) (hy : seqDist e y < 1024) (hxy : seqDist e x < seqDist e y)
    (hx' : seqDist e' x < 1024) (hy' : seqDist e' y < 1024) : seqDist e' x < seqDist e' y := by
  unfold seqDist at *
  bv_omega

theorem seqDist_inj {e x y : Seq} (h : seqDist e x = seqDist e y) : x = y := by
  unfold seqDist at h
  bv_omega

theorem OrderedFrom.sublist {e : Seq} {l l' : List HoldEntry} (h : OrderedFrom e l) (hsub : l'.Sublist l) : OrderedFrom e l' :=
  ⟨fun x hx => h.1 x (hsub.subset hx), h.2.sublist hsub⟩

theorem OrderedFromE.nil (e : Option Seq) : OrderedFromE e [] := by
  cases e with
  | none => rfl
  | some e => exact ⟨nofun, .nil⟩

theorem OrderedFromE.filter {e : Option Seq} {l : List HoldEntry} (h : OrderedFromE e l) (p : HoldEntry → Bool) :
    OrderedFromE e (l.filter p) := by
  cases e with
  | none => rw [show l = [] from h]; rfl
  | some e => exact OrderedFrom.sublist h List.filter_sublist

/-- R136: what a purge keeps is in order from the new E. -/
theorem OrderedFromE.purged {e : Option Seq} {l : List HoldEntry} (h : OrderedFromE e l) (e' : Seq) :
    OrderedFrom e' (l.filter (inWindow e')) := by
  have window {x : HoldEntry} (hx : x ∈ l.filter (inWindow e')) : seqDist e' x.seq < Config.window := by
    simpa [inWindow] using (List.mem_filter.mp hx).2
  refine ⟨fun x => window, ?_⟩
  cases e with
  | none => rw [show l = [] from h]; exact .nil
  | some e =>
    obtain ⟨hin, horder⟩ := h
    refine (horder.sublist List.filter_sublist).imp_of_mem fun {x y} hx hy hxy => ?_
    exact seqDist_order e e' _ _ (hin x (List.mem_filter.mp hx).1) (hin y (List.mem_filter.mp hy).1) hxy (window hx) (window hy)

/-- R132: a new number goes to its place in the order. -/
theorem OrderedFrom.insertEntry {e : Seq} {x : HoldEntry} {l : List HoldEntry} (h : OrderedFrom e l)
    (hx : seqDist e x.seq < Config.window) (hnew : ∀ y ∈ l, y.seq ≠ x.seq) : OrderedFrom e (insertEntry e x l) := by
  refine ⟨fun y hy => ?_, ?_⟩
  · obtain rfl | hy := (mem_insertEntry e x y l).mp hy
    · exact hx
    · exact h.1 y hy
  · replace h := h.2
    induction l with
    | nil => exact List.pairwise_singleton _ x
    | cons y l ih =>
      obtain ⟨hfirst, hrest⟩ := List.pairwise_cons.mp h
      unfold Machine.insertEntry
      split
      next hyx =>
        refine List.pairwise_cons.mpr ⟨fun z hz => ?_, ih (fun z hz => hnew z (List.mem_cons_of_mem y hz)) hrest⟩
        obtain rfl | hz := (mem_insertEntry e x z l).mp hz
        · exact hyx
        · exact hfirst z hz
      next hyx =>
        have hne : seqDist e y.seq ≠ seqDist e x.seq := fun h => hnew y List.mem_cons_self (seqDist_inj h)
        have hxy : seqDist e x.seq < seqDist e y.seq := by omega
        refine List.pairwise_cons.mpr ⟨fun z hz => ?_, h⟩
        obtain rfl | hz := List.mem_cons.mp hz
        · exact hxy
        · exact hxy.trans (hfirst z hz)

theorem HoldQueueLaw.congr {s t : State} (h : HoldQueueLaw s) (hq : t.holdQueue = s.holdQueue) (he : t.release.e = s.release.e) :
    HoldQueueLaw t := by
  unfold HoldQueueLaw
  rwa [hq, he]

theorem holdQueueLaw_reset {s : State} (hq : s.holdQueue = .reset) : HoldQueueLaw s := by
  unfold HoldQueueLaw
  rw [hq]
  exact ⟨by decide, by decide, .nil _⟩

theorem runawayUp_holdQueue (q : Seq) (s : State) :
    (runawayUp q s).holdQueue = ⟨s.holdQueue.entries, if 16 ≤ s.holdQueue.runaway + 1 then 0 else s.holdQueue.runaway + 1⟩ := by
  unfold runawayUp
  split <;> simp

theorem storeEntry_holdQueue (e : Seq) (x : HoldEntry) (s : State) :
    (storeEntry e x s).holdQueue = ⟨insertEntry e x s.holdQueue.entries, 0⟩ := rfl

/-- R133: at a full queue an arrival is dropped, or takes the tail's place. -/
theorem storeAtFull_holdQueue (e : Seq) (x : HoldEntry) (s : State) :
    (storeAtFull e x s).holdQueue = s.holdQueue ∨
      (storeAtFull e x s).holdQueue = ⟨insertEntry e x s.holdQueue.entries.dropLast, 0⟩ ∧ s.holdQueue.entries ≠ [] := by
  unfold storeAtFull
  dsimp only
  split
  · exact .inl rfl
  next tail htail =>
    split
    · exact .inr ⟨rfl, fun h => by simp [h] at htail⟩
    · exact .inl rfl

/-- R131 to R133, R138: an arrival keeps the law of the hold queue. -/
theorem HoldQueueLaw.classifyArrival {s : State} {e : Seq} (h : HoldQueueLaw s) (he : s.release.e = some e) (x : HoldEntry) :
    HoldQueueLaw { s with holdQueue := (classifyArrival e x s).holdQueue } := by
  obtain ⟨hlen, hrun, horder⟩ := h
  unfold HoldQueueLaw
  dsimp only
  rw [he] at horder ⊢
  obtain ⟨t, ht, hc⟩ | hc | ⟨hx, hnew, ⟨hc, hroom⟩ | ⟨hc, _⟩⟩ := classifyArrival_cases e x s <;> rw [hc]
  · rw [runawayUp_holdQueue, ht]
    refine ⟨hlen, ?_, horder⟩
    dsimp only
    split <;> omega
  · exact ⟨hlen, hrun, horder⟩
  · rw [storeEntry_holdQueue]
    exact ⟨by rw [length_insertEntry]; omega, Nat.zero_le _, OrderedFrom.insertEntry horder hx hnew⟩
  · obtain h | ⟨h, hne⟩ := storeAtFull_holdQueue e x s <;> rw [h]
    · exact ⟨hlen, hrun, horder⟩
    · have hpos := List.length_pos_of_ne_nil hne
      refine ⟨by rw [length_insertEntry, List.length_dropLast]; omega, Nat.zero_le _, ?_⟩
      exact OrderedFrom.insertEntry (OrderedFrom.sublist horder (List.dropLast_sublist _)) hx
        fun y hy => hnew y (List.dropLast_subset _ hy)

/-- R136, R145: E moved, the queue purged against the new one. -/
theorem HoldQueueLaw.purge {s t : State} (h : HoldQueueLaw s) (e : Seq) (he : t.release.e = some e)
    (hq : t.holdQueue = s.holdQueue) : HoldQueueLaw (purge t) := by
  obtain ⟨hlen, hrun, horder⟩ := h
  unfold HoldQueueLaw
  rw [purge_entries t e he, purge_release, he]
  rw [← hq] at hlen hrun horder
  refine ⟨(List.length_filter_le _ _).trans hlen, ?_, horder.purged e⟩
  unfold Machine.purge
  split <;> exact hrun

theorem HoldQueueLaw.busOp {s t : State} (hop : BusOp s t) (h : HoldQueueLaw s) : HoldQueueLaw t := by
  cases hop with
  | same hsame => exact h.congr hsame.holdQueue hsame.e
  | removed =>
    obtain ⟨hlen, hrun, horder⟩ := h
    exact ⟨(List.length_filter_le _ _).trans hlen, hrun, horder.filter _⟩
  | rebased =>
    obtain ⟨hlen, _, horder⟩ := h
    exact ⟨hlen, Nat.zero_le _, horder⟩
  | arrived he => exact h.classifyArrival he _
  | moved _ => exact h.purge _ rfl rfl
  | _ => exact h

theorem holdQueueLaw_kept : Kept HoldQueueLaw where
  waits _ _ h := h
  tick _ h := h.congr (by simp) (by simp [tick, clockOn])
  pair _ _ _ step h := h.congr step.holdQueue (by rw [step.release])
  bus _ _ := .busOp
  pinReset _ := holdQueueLaw_reset rfl
  busReset _ _ := holdQueueLaw_reset rfl
  reading _ _ _ h := h
  stored _ _ _ _ _ h := h
  active _ _ _ h := h.purge _ rfl rfl
  spare _ _ h := h
  conflict _ _ _ := holdQueueLaw_reset (by simp)

/-- Settles O6: the hold queue law is kept by every operation that touches the queue or E. -/
theorem everyStepKeepsTheHoldQueueLaw : Obligations.EveryStepKeepsTheHoldQueueLaw :=
  fun _ _ => holdQueueLaw_kept.step

end Sys2Proof.Machine

namespace Sys2Proof.Machine

/-! ### A station that is not ACTIVE is silent (R8, R16, R144) -/

@[simp] theorem slotOf_with_onLine (b : BusPort) (x : Option OnLine) (k : SlotKind) :
    slotOf { b with onLine := x } k = slotOf b k := by cases k <;> rfl

theorem slotOf_emptied (b : BusPort) (k j : SlotKind) : slotOf (setSlot b k none) j = slotOf b j ∨ slotOf (setSlot b k none) j = none := by
  by_cases h : j = k
  · exact .inr (by rw [h]; exact slotOf_setSlot_same b k none)
  · exact .inl (slotOf_setSlot_other b none h)

theorem SilentLaw.of_parts {s t : State} (h : SilentLaw s) (hm : t.group.mode = s.group.mode)
    (hslots : ∀ k, slotOf t.port k = slotOf s.port k ∨ slotOf t.port k = none)
    (hline : ∀ x ∈ t.port.onLine, (∃ y ∈ s.port.onLine, x.retry = y.retry) ∨ x.retry = false) : SilentLaw t := by
  intro hmode
  obtain ⟨hempty, hretry⟩ := h (by rwa [← hm])
  refine ⟨fun k hk => ?_, fun x hx => ?_⟩
  · obtain h | h := hslots k
    · rw [h, hempty k hk]
    · exact h
  · obtain ⟨y, hy, h⟩ | h := hline x hx
    · rw [h, hretry y hy]
    · exact h

/-- A station that is not ACTIVE has nothing pending, and its skip timer is STOPPED. -/
abbrev QuietLaw (s : State) : Prop := SilentLaw s ∧ SkipTimerLaw s

theorem not_mayPlace {s : State} (h : SkipTimerLaw s) (hm : s.group.mode ≠ .active) : ¬MayPlace s := by
  rintro (ha | ht)
  · exact hm (by simpa [isActive] using ha)
  · exact ht (h hm)

theorem SilentLaw.of_mayPlace {s t : State} (h : SkipTimerLaw s) (hp : MayPlace s) (hm : t.group.mode = s.group.mode) :
    SilentLaw t :=
  fun hmode => absurd hp (not_mayPlace h (by rwa [← hm]))

theorem withdrawBlock_onLine (k : SlotKind) (s : State) :
    ∀ x ∈ (withdrawBlock k s).port.onLine, ∃ y ∈ s.port.onLine, x.kind = y.kind ∧ x.block = y.block ∧ x.fails = y.fails ∧
      (x.retry = y.retry ∧ y.kind ≠ k ∨ x.retry = false) := by
  intro x hx
  obtain ⟨y, hy, rfl⟩ := Option.map_eq_some_iff.mp hx
  refine ⟨y, hy, ?_⟩
  split
  · exact ⟨rfl, rfl, rfl, .inr rfl⟩
  next hk => exact ⟨rfl, rfl, rfl, .inl ⟨rfl, hk⟩⟩

theorem withdrawBlock_slots (k : SlotKind) (s : State) (j : SlotKind) :
    slotOf (withdrawBlock k s).port j = slotOf (setSlot s.port k none) j := slotOf_with_onLine _ _ j

theorem slotClosed_slots (s : State) (k : SlotKind) : slotOf (slotClosed s).port k = slotOf (setSlot s.port .claim none) k := by
  cases k <;> rfl

theorem SilentLaw.busOp {s t : State} (hop : BusOp s t) (h : SilentLaw s) (ht : SkipTimerLaw s) : SilentLaw t := by
  have same (x : OnLine) (hx : x ∈ s.port.onLine) : (∃ y ∈ s.port.onLine, x.retry = y.retry) ∨ x.retry = false :=
    .inl ⟨x, hx, rfl⟩
  cases hop with
  | same hsame => exact h.of_parts hsame.mode (fun k => .inl (hsame.slots k)) (by rw [hsame.onLine]; exact same)
  | placed _ ha _ => exact .of_mayPlace ht ha rfl
  | withdrawn _ =>
    refine h.of_parts rfl (fun j => by rw [withdrawBlock_slots]; exact slotOf_emptied _ _ j) fun x hx => ?_
    obtain ⟨y, hy, _, _, _, ⟨h, _⟩ | h⟩ := withdrawBlock_onLine _ s x hx
    · exact .inl ⟨y, hy, h⟩
    · exact .inr h
  | cleared => exact h.of_parts rfl (fun j => .inl (slotOf_with_onLine _ _ j)) nofun
  | retried hx hretry _ _ =>
    intro hm
    exact absurd hretry (by simp [(h hm).2 _ hx])
  | won _ _ ha _ => exact .of_mayPlace ht (.inl ha) rfl
  | lost => exact h.of_parts rfl (fun j => slotOf_emptied s.port .claim j) (by rw [setSlot_onLine]; exact same)
  | closed _ => exact h.of_parts rfl (fun j => by rw [slotClosed_slots]; exact slotOf_emptied _ _ j) same
  | judged hc _ =>
    refine h.of_parts rfl (fun j => ?_) same
    cases j <;> simp [slotOf]
    exact hc.symm
  | claimed ha _ _ _ => exact .of_mayPlace ht (.inl ha) rfl
  | delivered _ _ _ =>
    refine h.of_parts rfl (fun j => ?_) nofun
    rw [slotClosed_slots, ← slotOf_with_onLine s.port none j]
    exact slotOf_emptied _ _ j
  | moved ha => exact .of_mayPlace ht (.inl ha) rfl
  | _ => exact h

theorem SkipTimerLaw.busOp {s t : State} (hop : BusOp s t) (h : SkipTimerLaw s) : SkipTimerLaw t := by
  cases hop with
  | same hsame => intro hm; rw [hsame.skipTimer]; exact h (by rwa [← hsame.mode])
  | timed ha =>
    intro hm
    obtain ha | hx := ha
    · exact absurd ha (not_mayPlace h hm)
    · exact hx
  | moved ha => intro hm; exact absurd ha (by simpa [isActive] using hm)
  | _ => exact h

theorem SilentLaw.of_reset {s : State} (hs : ∀ k, slotOf s.port k = none) (hl : s.port.onLine = none) : SilentLaw s :=
  fun _ => ⟨fun k _ => hs k, by simp [hl]⟩

/-- Outside ACTIVE a pair's step leaves the bus port as it was. -/
theorem PairStep.silent {p : Pair} {s t : State} (step : PairStep p s t) (h : SilentLaw s) : SilentLaw t := by
  obtain hp | ⟨ha, _⟩ := step.port
  · intro hm
    rw [hp]
    exact h (by rwa [← step.group])
  · intro hm
    rw [step.group] at hm
    exact absurd ha (by simpa [isActive] using hm)

theorem emptySlots_slots (s : State) (k : SlotKind) : slotOf (emptySlots s).port k = none := by cases k <;> rfl

theorem emptySlots_retry (s : State) : ∀ x ∈ (emptySlots s).port.onLine, x.retry = false := by
  intro x hx
  obtain ⟨y, _, rfl⟩ := Option.map_eq_some_iff.mp hx
  rfl

theorem skipTimerLaw_kept : Kept SkipTimerLaw where
  waits _ _ h := h
  tick s h := by
    intro hm
    have hstopped := h (by simpa [tick, clockOn] using hm)
    simp [tick, clockOn, hstopped, tickSkip]
  pair _ _ _ step h := fun hm => by rw [step.release]; exact h (by rwa [← step.group])
  bus _ _ := .busOp
  pinReset _ := fun _ => rfl
  busReset _ _ := fun _ => rfl
  reading s _ hm h := fun _ => h (by simp [hm])
  stored s _ _ hm _ h := fun _ => h (by simp [hm])
  active _ _ _ _ := fun hm => absurd (by simp [enterActive]) hm
  spare _ _ _ := fun _ => rfl
  conflict _ _ _ := fun _ => by simp

theorem silentLaw_leads : Leads QuietLaw SilentLaw where
  waits _ _ h := h.1
  tick s h := by
    intro hm
    rw [tick_port]
    exact h.1 (by simpa [tick, clockOn] using hm)
  pair _ _ _ step h := step.silent h.1
  bus _ _ hop h := .busOp hop h.1 h.2
  pinReset _ := .of_reset (fun k => by cases k <;> rfl) rfl
  busReset _ _ := .of_reset (fun k => by cases k <;> rfl) rfl
  reading s _ hm h := fun _ => h.1 (by simp [hm])
  stored s _ _ hm _ h := fun _ => h.1 (by simp [hm])
  active _ _ _ _ := fun hm => absurd (by simp [enterActive]) hm
  spare s hm h := fun _ => h.1 (by simp [hm])
  conflict s _ _ := by
    intro _
    rw [enterConflict_port]
    exact ⟨fun k _ => emptySlots_slots s k, emptySlots_retry s⟩

/-! ### A pending SKIP or RELEASE names E (R145, R151) -/

/-- The kinds whose blocks name E. -/
abbrev Naming (k : SlotKind) : Prop := k = .skip ∨ k = .release

theorem namedLaw_iff (s : State) :
    NamedLaw s ↔ ∀ k, Naming k → (∀ x ∈ slotOf s.port k, NamesE s x.block) ∧
      ∀ x ∈ s.port.onLine, x.kind = k → x.retry = true → NamesE s x.block := by
  constructor
  · rintro ⟨hskip, hrelease, hline⟩ k (rfl | rfl)
    · exact ⟨hskip, fun x hx hk => hline x hx (.inl hk)⟩
    · exact ⟨hrelease, fun x hx hk => hline x hx (.inr hk)⟩
  · intro h
    refine ⟨(h .skip (.inl rfl)).1, (h .release (.inr rfl)).1, fun x hx hk => (h x.kind hk).2 x hx rfl⟩

/-- What was pending before, or names E, may be pending now. -/
theorem NamedLaw.of_parts {s t : State} (h : NamedLaw s) (he : t.release.e = s.release.e)
    (hslots : ∀ k, Naming k → ∀ x ∈ slotOf t.port k,
      x ∈ slotOf s.port k ∨ NamesE s x.block)
    (hline : ∀ x ∈ t.port.onLine, Naming x.kind → x.retry = true → x ∈ s.port.onLine ∨ NamesE s x.block) : NamedLaw t := by
  rw [namedLaw_iff] at h ⊢
  intro k hk
  refine ⟨fun x hx => ?_, fun x hx hkind hretry => ?_⟩
  · unfold NamesE; rw [he]
    obtain hx | hx := hslots k hk x hx
    · exact (h k hk).1 x hx
    · exact hx
  · unfold NamesE; rw [he]
    obtain hx | hx := hline x hx (by rwa [hkind]) hretry
    · exact (h k hk).2 x hx hkind hretry
    · exact hx

/-- R145: after the three have been withdrawn none of them is pending, or retried. -/
theorem namedLaw_withdrawn (s : State) :
    NamedLaw (withdrawBlock .rebase (withdrawBlock .skip (withdrawBlock .release s))) := by
  refine ⟨nofun, nofun, fun x hx hkind hretry => ?_⟩
  obtain ⟨y, hy, hky, _, _, ⟨hry, _⟩ | h⟩ := withdrawBlock_onLine _ _ x hx
  · obtain ⟨z, hz, hkz, _, _, ⟨hrz, hskip⟩ | h⟩ := withdrawBlock_onLine _ _ y hy
    · obtain ⟨w, _, hkw, _, _, ⟨_, hrelease⟩ | h⟩ := withdrawBlock_onLine _ _ z hz
      · rw [hky, hkz] at hkind
        exact absurd hkind (by rw [hkw] at hskip ⊢; simp [hskip, hrelease])
      · exact absurd hretry (by simp [hry, hrz, h])
    · exact absurd hretry (by simp [hry, h])
  · exact absurd hretry (by simp [h])

theorem NamedLaw.busOp {s t : State} (hop : BusOp s t) (h : NamedLaw s) : NamedLaw t := by
  have slot {k : SlotKind} (hk : Naming k) : ∀ x ∈ slotOf s.port k, NamesE s x.block := ((namedLaw_iff s).mp h k hk).1
  have same (x : OnLine) (hx : x ∈ s.port.onLine) (_ : Naming x.kind) (_ : x.retry = true) :
      x ∈ s.port.onLine ∨ NamesE s x.block := .inl hx
  have emptied {k j : SlotKind} {x : PendingBlock} (hx : x ∈ slotOf (setSlot s.port k none) j) :
      x ∈ slotOf s.port j ∨ NamesE s x.block := by
    obtain h | h := slotOf_emptied s.port k j <;> rw [h] at hx
    · exact .inl hx
    · cases hx
  cases hop with
  | same hsame => exact h.of_parts hsame.e (by simp only [hsame.slots]; exact fun _ _ _ => .inl) (by rw [hsame.onLine]; exact same)
  | @placed k blk _ _ hn =>
    refine h.of_parts rfl (fun j hj x hx => ?_) (by simpa [placeBlock] using same)
    by_cases hjk : j = k
    · subst hjk
      simp only [placeBlock, slotOf_setSlot_same, Option.mem_some_iff] at hx
      exact .inr (hx ▸ hn hj)
    · simp only [placeBlock, slotOf_setSlot_other _ _ hjk] at hx
      exact .inl hx
  | withdrawn _ =>
    refine h.of_parts rfl (fun j _ x hx => emptied (by rwa [withdrawBlock_slots] at hx)) fun x hx hkind hretry => ?_
    obtain ⟨y, hy, hyk, hyb, _, ⟨hyr, _⟩ | hyr⟩ := withdrawBlock_onLine _ s x hx
    · rw [hyb]
      exact .inr (((namedLaw_iff s).mp h y.kind (hyk ▸ hkind)).2 y hy rfl (hyr ▸ hretry))
    · exact absurd hretry (by simp [hyr])
  | cleared => exact h.of_parts rfl (fun j _ x hx => .inl (by rwa [slotOf_with_onLine] at hx)) nofun
  | @retried x hx hretry _ _ =>
    refine h.of_parts rfl (fun j hj y hy => ?_) nofun
    simp only [slotOf_with_onLine] at hy
    by_cases hjk : j = x.kind
    · subst hjk
      simp only [slotOf_setSlot_same, Option.mem_some_iff] at hy
      exact .inr (hy ▸ ((namedLaw_iff s).mp h x.kind hj).2 x hx rfl hretry)
    · rw [slotOf_setSlot_other _ _ hjk] at hy
      exact .inl hy
  | @won k x hx _ _ _ =>
    refine h.of_parts rfl (fun j _ y hy => emptied (by rwa [slotOf_with_onLine] at hy)) fun y hy hkind _ => ?_
    obtain rfl := Option.mem_some_iff.mp hy
    exact .inr (slot hkind x hx)
  | lost => exact h.of_parts rfl (fun j _ y hy => emptied hy) (by rw [setSlot_onLine]; exact same)
  | delivered _ _ _ => exact h.of_parts rfl (by rintro _ (rfl | rfl) <;> exact fun _ => .inl) nofun
  | moved _ => exact namedLaw_withdrawn _
  | claimed _ _ _ _ => exact h.of_parts rfl (by rintro _ (rfl | rfl) <;> exact fun _ => .inl) same
  | _ => exact h

/-- Where nothing is pending, and nothing on the line would be retried, nothing has to name E. -/
theorem NamedLaw.of_silent {s : State} (hs : ∀ k, Naming k → slotOf s.port k = none)
    (hl : ∀ x ∈ s.port.onLine, x.retry = false) : NamedLaw s := by
  rw [namedLaw_iff]
  refine fun k hk => ⟨?_, fun x hx _ hretry => absurd hretry (by simp [hl x hx])⟩
  simp [hs k hk]

theorem NamedLaw.of_not_active {s t : State} (h : SilentLaw s) (hm : s.group.mode ≠ .active) (hp : t.port = s.port) :
    NamedLaw t := by
  obtain ⟨hslots, hline⟩ := h hm
  refine .of_silent (fun k hk => ?_) (by rwa [hp])
  rw [hp]
  obtain rfl | rfl := hk
  · exact hslots .skip (by decide)
  · exact hslots .release (by decide)

theorem PairStep.named {p : Pair} {s t : State} (step : PairStep p s t) (h : NamedLaw s) : NamedLaw t := by
  obtain hp | ⟨_, hp⟩ := step.port
  · unfold NamedLaw NamesE
    rw [hp, step.release]
    exact h
  · obtain h' | ⟨k, e, _, he, h'⟩ := placeSkip_cases s
    · unfold NamedLaw NamesE
      rw [hp, h', step.release]
      exact h
    · have placed := h.busOp (.placed (k := .skip) (blk := ⟨seqValue e, stationAddress k, 0, []⟩) nofun (.inl ‹_›)
        (fun _ => by simp [NamesE, he]))
      rw [← h'] at placed
      unfold NamedLaw NamesE at placed ⊢
      rw [hp, step.release]
      simpa using placed

theorem namedLaw_leads : Leads (fun s => NamedLaw s ∧ SilentLaw s) NamedLaw where
  waits _ _ h := h.1
  tick s h := by
    unfold NamedLaw NamesE
    rw [tick_port, show (tick s).release.e = s.release.e by simp [tick, clockOn]]
    exact h.1
  pair _ _ _ step h := step.named h.1
  bus _ _ hop h := .busOp hop h.1
  pinReset _ := .of_silent (fun k _ => by cases k <;> rfl) nofun
  busReset _ _ := .of_silent (fun k _ => by cases k <;> rfl) nofun
  reading _ _ _ h := h.1
  stored _ _ _ _ _ h := h.1
  active s k hm h := .of_not_active h.2 (by simp [hm]) (by simp [enterActive])
  spare _ _ h := h.1
  conflict s _ _ := by
    refine .of_silent (fun k _ => ?_) ?_ <;> rw [enterConflict_port]
    · exact emptySlots_slots s k
    · exact emptySlots_retry s

theorem releaseLaw_kept : Kept ReleaseLaw :=
  (namedLaw_leads.mono fun _ h => ⟨h.1, h.2.2⟩).and
    ((skipTimerLaw_kept.mono fun _ h => h.2.1).and (silentLaw_leads.mono fun _ h => ⟨h.2.2, h.2.1⟩))

/-- Settles O8: every move of E withdraws what named the old one, and only an ACTIVE station places. -/
theorem everyStepKeepsSkipAndReleaseAtE : Obligations.EveryStepKeepsSkipAndReleaseAtE :=
  fun _ _ => releaseLaw_kept.step

end Sys2Proof.Machine

namespace Sys2Proof.Machine

theorem everyPair_iff {c : Pair → Prop} : EveryPair c ↔ ∀ p, c p :=
  ⟨fun ⟨a, b, c, d⟩ p => by cases p <;> assumption, fun h => ⟨h .a, h .b, h .c, h .d⟩⟩

/-! ### Line units at rest, and what ACTIVE holds (R17, R24, R79, R83, R104) -/

theorem holdOffCounts_tickLine (u : LineUnit) : holdOffCounts (tickLine u) = holdOffCounts u := by
  unfold holdOffCounts tickLine
  dsimp only
  cases u.holdOff <;> rfl

/-- What the choices due and a microsecond leave of a line unit. -/
theorem line_tick_keeps (s : State) (p : Pair) :
    (line (tick s) p).queue = (line s p).queue ∧ (line (tick s) p).state = (line s p).state ∧
      holdOffCounts (line (tick s) p) = holdOffCounts (line s p) := by
  rw [line_tick, holdOffCounts_tickLine]
  split
  · exact ⟨rfl, rfl, rfl⟩
  · obtain ⟨_, _, _, _, _, _, h⟩ := chooseLine_only s (line s p)
    rw [h]
    exact ⟨rfl, rfl, rfl⟩

theorem AtRest.not_inService {u : LineUnit} (h : AtRest u) : inService u = false := by
  obtain ⟨h | h, _, _⟩ := h <;> simp [inService, h]

theorem LineUnit.reset_atRest : AtRest .reset := ⟨.inr rfl, rfl, rfl⟩

theorem busResetLine_atRest (enabled : Bool) : AtRest (busResetLine enabled) := by
  cases enabled
  · exact ⟨.inl rfl, rfl, rfl⟩
  · exact LineUnit.reset_atRest

theorem AtRest.lineOff {u : LineUnit} (h : AtRest u) : AtRest (lineOff u) := by
  obtain ⟨_, _, hq⟩ := h
  exact ⟨.inl rfl, rfl, hq⟩

/-- The line units of a station that holds RestLaw and whose mode is neither ACTIVE nor CONFLICT. -/
theorem RestLaw.atRest {s : State} (h : RestLaw s) (ha : s.group.mode ≠ .active) (hc : s.group.mode ≠ .conflict) (p : Pair) :
    AtRest (line s p) := everyPair_iff.mp (h ha hc) p

theorem line_storeRecord (r : StartRecord) (d : Bool) (s : State) (p : Pair) :
    line (storeRecord r d s) p = if quadGet r.enabled p then line s p else lineOff (line s p) := by
  rw [storeRecord_eq]
  exact quadGet_quadOf _ p

theorem RestLaw.of_lines {s t : State} (h : RestLaw s) (hm : t.group.mode = s.group.mode)
    (hl : ∀ p, AtRest (line s p) → AtRest (line t p)) : RestLaw t := by
  intro ha hc
  rw [hm] at ha hc
  exact everyPair_iff.mpr fun p => hl p (h.atRest ha hc p)

theorem PairStep.line_cases {p : Pair} {s t : State} (step : PairStep p s t) (r : Pair) :
    LineMoves s.group (line s r) (line t r) := by
  by_cases h : r = p
  · subst h; exact step.moves
  · rw [step.others r h]

theorem AtRest.moves {g : GroupMonitor} {u v : LineUnit} (h : LineMoves g u v) (hu : AtRest u) : AtRest v :=
  h.keeps (fun _ _ hmove => hmove.keeps_rest) hu

theorem RestLaw.busOp {s t : State} (hop : BusOp s t) (h : RestLaw s) : RestLaw t := by
  cases hop with
  | same hsame => exact h.of_lines hsame.mode fun p => by simp only [line, hsame.lines]; exact id
  | @delivered x f _ _ hin =>
    refine h.of_lines rfl fun p hp => ?_
    rw [line_slotClosed]
    by_cases hr : p = pairOfBits x.block.pair
    · subst hr
      exact absurd hp.not_inService (by simp [hin])
    · rw [line_modLine_other _ _ hr]
      exact hp
  | moved _ => exact h.of_lines (by simp) fun p => by simp [line]
  | _ => exact h

theorem restLaw_kept : Kept RestLaw where
  waits _ _ h := h
  tick s h := h.of_lines (by simp [tick, clockOn]) fun p hp => by
    obtain ⟨hq, hs, hh⟩ := line_tick_keeps s p
    unfold AtRest
    rw [hq, hs, hh]
    exact hp
  pair _ _ _ step h := h.of_lines (by rw [step.group]) fun r => .moves (step.line_cases r)
  bus _ _ := .busOp
  pinReset _ := fun _ _ => everyPair_iff.mpr fun p => by cases p <;> exact LineUnit.reset_atRest
  busReset s _ := fun _ _ => everyPair_iff.mpr fun p => by
    simp only [busResetState, line, quadGet_quadOf]
    exact busResetLine_atRest _
  reading s _ hm h := fun _ _ => h (by simp [hm]) (by simp [hm])
  stored s r d hm _ h := fun _ _ => everyPair_iff.mpr fun p => by
    have rest := h.atRest (by simp [hm]) (by simp [hm]) p
    rw [line_storeRecord]
    split
    · exact rest
    · exact rest.lineOff
  active _ _ _ _ := fun ha => absurd (by simp [enterActive]) ha
  spare s hm h := fun _ _ => everyPair_iff.mpr fun p => by
    simp only [enterSpare, line, quadGet_quadOf]
    exact (h.atRest (by simp [hm]) (by simp [hm]) p).lineOff
  conflict _ _ _ := fun _ hc => absurd (by simp) hc

theorem ActiveLaw.busOp {s t : State} (hop : BusOp s t) (h : ActiveLaw s) : ActiveLaw t := by
  cases hop with
  | same hsame =>
    intro hm
    obtain ⟨hnumber, hns, he, hchain⟩ := h (by rwa [← hsame.mode])
    exact ⟨by rwa [hsame.number], hsame.ns hns, by rwa [hsame.e], by rwa [hsame.chainOut]⟩
  | moved ha =>
    intro hm
    obtain ⟨hnumber, hns, _, hchain⟩ := h (by simpa using hm)
    exact ⟨by simpa using hnumber, by simpa using hns, by simp, by simpa using hchain⟩
  | _ => exact h

theorem activeLaw_kept : Kept ActiveLaw where
  waits _ _ h := h
  tick s h := fun hm => by simpa [tick, clockOn] using h (by simpa [tick, clockOn] using hm)
  pair _ _ _ step h := by
    unfold ActiveLaw
    rw [step.group, step.sequencer, step.release]
    exact h
  bus _ _ := .busOp
  pinReset _ := nofun
  busReset s _ := by
    intro hm
    exact absurd hm (by simp only [busResetState, busResetGroup]; split <;> simp_all)
  reading _ _ _ _ := nofun
  stored _ _ _ _ _ _ := nofun
  active s k _ _ := fun _ => by simp [enterActive]
  spare _ _ _ := nofun
  conflict s _ _ := fun hm => absurd hm (by simp)

/-! ### A queue is non-empty only in service (R76) -/

theorem QueueLaw.of_lines {s t : State} (h : QueueLaw s)
    (hl : ∀ p, ((line s p).queue ≠ [] → inService (line s p) = true) → (line t p).queue ≠ [] → inService (line t p) = true) :
    QueueLaw t := everyPair_iff.mpr fun p => hl p (everyPair_iff.mp h p)

theorem QueueLaw.of_empty {s : State} (h : ∀ p, (line s p).queue = []) : QueueLaw s :=
  everyPair_iff.mpr fun p hne => absurd (h p) hne

theorem LineMoves.queue_only_in_service {g : GroupMonitor} {u v : LineUnit} (h : LineMoves g u v)
    (hu : u.queue ≠ [] → inService u = true) : v.queue ≠ [] → inService v = true :=
  h.keeps (P := fun w => w.queue ≠ [] → inService w = true) (fun _ _ hmove => hmove.queue_only_in_service) hu

theorem QueueLaw.busOp {s t : State} (hop : BusOp s t) (h : QueueLaw s) : QueueLaw t := by
  cases hop with
  | same hsame => exact h.of_lines fun p => by simp only [line, hsame.lines]; exact id
  | @delivered x f _ _ hin =>
    refine h.of_lines fun p hp => ?_
    rw [line_slotClosed]
    by_cases hr : p = pairOfBits x.block.pair
    · subst hr
      rw [line_modLine_same]
      exact fun _ => hin
    · rw [line_modLine_other _ _ hr]
      exact hp
  | moved _ => exact h.of_lines fun p => by simp [line]
  | _ => exact h

theorem line_enterActive (k : StationNo) (s : State) (p : Pair) :
    line (enterActive k s) p = startHoldOff (config s).holdOffBase (line s p) := by
  simp only [enterActive, line_purge]
  exact quadGet_quadOf _ p

theorem startHoldOff_eq (base : Nat) (u : LineUnit) : ∃ x, startHoldOff base u = { u with holdOff := x } := by
  unfold startHoldOff
  split
  · exact ⟨_, rfl⟩
  · exact ⟨u.holdOff, rfl⟩

theorem queueLaw_leads : Leads ServiceQueueLaw QueueLaw where
  waits _ _ h := h.1
  tick s h := h.1.of_lines fun p hp => by
    obtain ⟨hq, hs, _⟩ := line_tick_keeps s p
    rw [hq]
    unfold inService at hp ⊢
    rwa [hs]
  pair _ _ _ step h := h.1.of_lines fun r => (step.line_cases r).queue_only_in_service
  bus _ _ hop h := .busOp hop h.1
  pinReset _ := .of_empty fun p => by cases p <;> rfl
  busReset s _ := .of_empty fun p => by
    simp only [busResetState, line, quadGet_quadOf]
    obtain ⟨_, _, h⟩ := busResetLine_atRest (quadGet (config s).enabled p)
    exact h
  reading _ _ _ h := h.1
  stored s r d hm _ h := .of_empty fun p => by
    obtain ⟨_, _, hq⟩ := h.2.atRest (by simp [hm]) (by simp [hm]) p
    rw [line_storeRecord]
    split <;> exact hq
  active s k _ h := h.1.of_lines fun p hp => by
    obtain ⟨x, hx⟩ := startHoldOff_eq (config s).holdOffBase (line s p)
    rw [line_enterActive, hx]
    exact hp
  spare s hm h := .of_empty fun p => by
    obtain ⟨_, _, hq⟩ := h.2.atRest (by simp [hm]) (by simp [hm]) p
    simp only [enterSpare, line, quadGet_quadOf]
    exact hq
  conflict s _ h := h.1.of_lines fun p => (enterConflict_moves s p).queue_only_in_service

theorem modesAndQueues_kept : Kept (fun s => ActiveLaw s ∧ ServiceQueueLaw s) :=
  (activeLaw_kept.mono fun _ h => h.1).and
    ((queueLaw_leads.mono fun _ h => h.2).and (restLaw_kept.mono fun _ h => h.2.2))

/-- Settles O11: a line unit moves only at an ACTIVE station or one in CONFLICT, and a queue grows only in service. -/
theorem everyStepKeepsModesAndQueues : Obligations.EveryStepKeepsModesAndQueues :=
  fun _ _ => modesAndQueues_kept.step

end Sys2Proof.Machine

namespace Sys2Proof.Machine

/-! ### The claim slot and the send pool (R14, R36, R65, R66) -/

theorem ClaimSlotLaw.of_parts {s t : State} (h : ClaimSlotLaw s) (hopen : t.port.slotOpen = s.port.slotOpen)
    (hlatch : t.port.latch = s.port.latch) (hphase : t.sequencer.phase = s.sequencer.phase)
    (hverdict : t.sequencer.verdict = s.sequencer.verdict) (hbidding : t.sequencer.bidding = s.sequencer.bidding)
    (hclaim : s.port.claim = none → t.port.claim = none)
    (hline : s.port.slotOpen = false → ownOnLine s.port .claim = false → ownOnLine t.port .claim = false) : ClaimSlotLaw t := by
  obtain ⟨hiff, hin, hout⟩ := h
  unfold ClaimSlotLaw
  rw [hopen, hlatch, hphase, hverdict, hbidding]
  refine ⟨hiff, hin, fun hclosed => ?_⟩
  obtain ⟨hl, hv, hb, hc, ho⟩ := hout hclosed
  exact ⟨hl, hv, hb, hclaim hc, hline hclosed ho⟩

theorem ownOnLine_congr {b b' : BusPort} {k : SlotKind} (h : b'.onLine = b.onLine) : ownOnLine b' k = ownOnLine b k := by
  simp only [ownOnLine, h]

theorem setSlot_claim {b : BusPort} {k : SlotKind} (x : Option PendingBlock) (h : k ≠ .claim) : (setSlot b k x).claim = b.claim :=
  slotOf_setSlot_other b x (Ne.symm h)

theorem slotClosed_claimSlotLaw {s : State} (h : ownOnLine s.port .claim = false) : ClaimSlotLaw (slotClosed s) :=
  ⟨by simp [slotClosed, sequencerIdle], nofun, fun _ => ⟨rfl, rfl, rfl, rfl, h⟩⟩

theorem ownOnLine_withdrawBlock (k j : SlotKind) (s : State) :
    ownOnLine (withdrawBlock k s).port j = ownOnLine s.port j := by
  unfold ownOnLine withdrawBlock
  dsimp only
  cases s.port.onLine with
  | none => rfl
  | some x => simp only [Option.map_some]; split <;> rfl

theorem ownOnLine_emptySlots (j : SlotKind) (s : State) : ownOnLine (emptySlots s).port j = ownOnLine s.port j := by
  unfold ownOnLine emptySlots
  dsimp only
  cases s.port.onLine <;> rfl

/-- What the withdrawal of a block other than a CLAIM leaves of the claim slot. -/
theorem ClaimSlotLaw.withdrawn {s : State} (h : ClaimSlotLaw s) {k : SlotKind} (hk : k ≠ .claim) :
    ClaimSlotLaw (withdrawBlock k s) :=
  h.of_parts (setSlot_slotOpen _ _ _) (setSlot_latch _ _ _) rfl rfl rfl (setSlot_claim none hk).trans
    fun _ ho => (ownOnLine_withdrawBlock k .claim s).trans ho

theorem ClaimSlotLaw.busOp {s t : State} (hop : BusOp s t) (h : ClaimSlotLaw s) : ClaimSlotLaw t := by
  cases hop with
  | same hsame =>
    exact h.of_parts hsame.slotOpen hsame.latch hsame.phase hsame.verdict hsame.bidding (hsame.slots .claim).trans
      fun _ => (ownOnLine_congr hsame.onLine).trans
  | placed hk _ _ =>
    exact h.of_parts (setSlot_slotOpen _ _ _) (setSlot_latch _ _ _) rfl rfl rfl (setSlot_claim _ hk).trans
      fun _ => (ownOnLine_congr (setSlot_onLine _ _ _)).trans
  | withdrawn hk => exact h.withdrawn hk
  | cleared => exact h.of_parts rfl rfl rfl rfl rfl id fun _ _ => rfl
  | retried _ _ _ hk =>
    exact h.of_parts (setSlot_slotOpen _ _ _) (setSlot_latch _ _ _) rfl rfl rfl (setSlot_claim _ hk).trans fun _ _ => rfl
  | @won k x _ _ _ hopen =>
    refine h.of_parts (setSlot_slotOpen _ _ _) (setSlot_latch _ _ _) rfl rfl rfl (fun hc => ?_) fun hclosed _ => ?_
    · by_cases hk : k = .claim
      · subst hk; rfl
      · exact (setSlot_claim none hk).trans hc
    · simp only [ownOnLine, beq_eq_false_iff_ne]
      rintro rfl
      exact absurd (hopen rfl) (by simp [hclosed])
  | lost => exact h.of_parts rfl rfl rfl rfl rfl (fun _ => rfl) fun _ => id
  | closed hline => exact slotClosed_claimSlotLaw hline
  | judged hc hphase => exact ⟨by simp [hphase], fun _ => ⟨rfl, rfl⟩, nofun⟩
  | claimed _ hopen _ _ =>
    obtain ⟨hiff, hin, _⟩ := h
    exact ⟨hiff, hin, fun hclosed => absurd hclosed (by simp [placeBlock, setSlot, hopen])⟩
  | delivered _ _ _ => exact slotClosed_claimSlotLaw rfl
  | moved _ =>
    refine ClaimSlotLaw.withdrawn (k := .rebase) (ClaimSlotLaw.withdrawn (k := .skip)
      (ClaimSlotLaw.withdrawn (k := .release) ?_ nofun) nofun) nofun
    exact h.of_parts (by simp) (by simp) (by simp) (by simp) (by simp) (by simp) fun _ ho => by simpa using ho
  | _ => exact h

theorem placeSkip_parts (s : State) :
    (placeSkip s).port.slotOpen = s.port.slotOpen ∧ (placeSkip s).port.latch = s.port.latch ∧
      (placeSkip s).port.claim = s.port.claim ∧ (placeSkip s).port.onLine = s.port.onLine := by
  unfold placeSkip
  split <;> exact ⟨rfl, rfl, rfl, rfl⟩

theorem PairStep.claimParts {p : Pair} {s t : State} (step : PairStep p s t) :
    t.port.slotOpen = s.port.slotOpen ∧ t.port.latch = s.port.latch ∧ t.port.claim = s.port.claim ∧
      t.port.onLine = s.port.onLine := by
  obtain h | ⟨_, h⟩ := step.port <;> rw [h]
  · exact ⟨rfl, rfl, rfl, rfl⟩
  · exact placeSkip_parts s

theorem claimSlotLaw_reset {s : State} (hp : s.port.slotOpen = false ∧ s.port.latch = none ∧ s.port.claim = none ∧
    s.port.onLine = none) (hs : s.sequencer = .reset) : ClaimSlotLaw s := by
  obtain ⟨hopen, hlatch, hclaim, hline⟩ := hp
  unfold ClaimSlotLaw ownOnLine
  rw [hopen, hlatch, hclaim, hline, hs]
  exact ⟨by simp [Sequencer.reset], nofun, fun _ => ⟨rfl, rfl, rfl, rfl, rfl⟩⟩

theorem claimSlotLaw_kept : Kept ClaimSlotLaw where
  waits _ _ h := h
  tick s h := h.of_parts (by simp) (by simp) (by simp) (by simp) (by simp) (by simp) (by simp)
  pair _ _ _ step h := by
    obtain ⟨hopen, hlatch, hclaim, hline⟩ := step.claimParts
    exact h.of_parts hopen hlatch (by rw [step.sequencer]) (by rw [step.sequencer]) (by rw [step.sequencer]) hclaim.trans
      fun _ => (ownOnLine_congr hline).trans
  bus _ _ := .busOp
  pinReset _ := claimSlotLaw_reset ⟨rfl, rfl, rfl, rfl⟩ rfl
  busReset _ _ := claimSlotLaw_reset ⟨rfl, rfl, rfl, rfl⟩ rfl
  reading _ _ _ h := h
  stored _ _ _ _ _ h := h
  active s k _ h := h.of_parts (by simp [enterActive]) (by simp [enterActive]) (by simp [enterActive]) (by simp [enterActive])
    (by simp [enterActive]) (by simp [enterActive]) (by simp [enterActive])
  spare _ _ h := h
  conflict s _ h := by
    have hport := enterConflict_port s
    exact h.of_parts (by rw [hport]; rfl) (by rw [hport]; rfl) (by simp) (by simp) (by simp) (fun _ => by rw [hport]; rfl)
      fun _ ho => by rw [hport, ownOnLine_emptySlots]; exact ho

/-! #### The pairs a CLAIM names, and the room there is for them -/

theorem mem_claimedPairs (s : State) (p : Pair) :
    p ∈ claimedPairs s ↔ (∃ x, s.port.claim = some x ∧ pairOfBits x.block.pair = p) ∨
      ∃ x, s.port.onLine = some x ∧ x.kind = .claim ∧ pairOfBits x.block.pair = p := by
  unfold claimedPairs
  cases s.port.claim <;> cases s.port.onLine <;> simp [eq_comm (a := p)]

theorem poolUsed_mono {s t : State} (h : ∀ p, (line t p).queue.length ≤ (line s p).queue.length) : poolUsed t ≤ poolUsed s := by
  have ha := h .a
  have hb := h .b
  have hc := h .c
  have hd := h .d
  simp only [poolUsed, allPairs, List.map_cons, List.map_nil, List.sum_cons, List.sum_nil]
  omega

theorem PoolLaw.mono {s t : State} (h : PoolLaw s) (hlen : ∀ p, (line t p).queue.length ≤ (line s p).queue.length)
    (hc : config t = config s) (hsub : ∀ p ∈ claimedPairs t, p ∈ claimedPairs s) : PoolLaw t := by
  obtain ⟨hpool, hroom, hpairs⟩ := h
  have hused := poolUsed_mono hlen
  refine ⟨hused.trans hpool, fun hne => hused.trans_lt (hroom ?_), everyPair_iff.mpr fun p => ?_⟩
  · obtain ⟨p, hp⟩ := List.exists_mem_of_ne_nil _ hne
    exact List.ne_nil_of_mem (hsub p hp)
  · obtain ⟨hle, hlt⟩ := everyPair_iff.mp hpairs p
    rw [hc]
    exact ⟨(hlen p).trans hle, fun hp => (hlen p).trans_lt (hlt (hsub p hp))⟩

theorem PoolLaw.of_parts {s t : State} (h : PoolLaw s) (hl : t.lines = s.lines) (hr : t.group.record = s.group.record)
    (hclaim : ∀ x, t.port.claim = some x → s.port.claim = some x)
    (hline : ∀ x, t.port.onLine = some x → x.kind = .claim → ∃ y, s.port.onLine = some y ∧ y.kind = .claim ∧ x.block = y.block) :
    PoolLaw t := by
  refine h.mono (fun p => by simp [line, hl]) (by simp [config, hr]) fun p hp => ?_
  rw [mem_claimedPairs] at hp ⊢
  obtain ⟨x, hx, hp⟩ | ⟨x, hx, hk, hp⟩ := hp
  · exact .inl ⟨x, hclaim x hx, hp⟩
  · obtain ⟨y, hy, hyk, hb⟩ := hline x hx hk
    exact .inr ⟨y, hy, hyk, hb ▸ hp⟩

theorem PoolLaw.withdrawn {s : State} (h : PoolLaw s) {k : SlotKind} (hk : k ≠ .claim) : PoolLaw (withdrawBlock k s) := by
  refine h.of_parts rfl rfl (fun x hx => (setSlot_claim none hk).symm.trans hx) fun x hx hkind => ?_
  obtain ⟨y, hy, hky, hby, _, _⟩ := withdrawBlock_onLine k s x hx
  exact ⟨y, hy, hky ▸ hkind, hby⟩

theorem PoolLaw.slotClosed {s : State} (h : PoolLaw s) : PoolLaw (slotClosed s) :=
  h.of_parts rfl rfl nofun fun x hx hk => ⟨x, hx, hk, rfl⟩

/-- R67: one slot more for the fragment that the own CLAIM has won. -/
theorem poolUsed_append {s : State} (p : Pair) (f : Fragment) : poolUsed (modLine p (appendFragment f) s) = poolUsed s + 1 := by
  cases p <;>
    simp only [poolUsed, allPairs, List.map_cons, List.map_nil, List.sum_cons, List.sum_nil, line_modLine_same, ne_eq,
      reduceCtorEq, not_false_eq_true, line_modLine_other, appendFragment, List.length_append, List.length_singleton] <;>
    omega

theorem PoolLaw.delivered {s : State} (h : PoolLaw s) {x : OnLine} {f : Fragment} (hx : s.port.onLine = some x)
    (hk : x.kind = .claim) :
    PoolLaw (Machine.slotClosed (modLine (pairOfBits x.block.pair) (appendFragment f) { s with port.onLine := none })) := by
  obtain ⟨_, hroom, hpairs⟩ := h
  have named : pairOfBits x.block.pair ∈ claimedPairs s := (mem_claimedPairs s _).mpr (.inr ⟨x, hx, hk, rfl⟩)
  have hused := poolUsed_append (s := { s with port.onLine := none }) (pairOfBits x.block.pair) f
  have hempty : claimedPairs (Machine.slotClosed (modLine (pairOfBits x.block.pair) (appendFragment f) { s with port.onLine := none })) =
      [] := rfl
  unfold PoolLaw
  rw [hempty]
  refine ⟨?_, nofun, everyPair_iff.mpr fun p => ⟨?_, nofun⟩⟩
  · exact hused.le.trans (hroom (List.ne_nil_of_mem named))
  · obtain ⟨hle, hlt⟩ := everyPair_iff.mp hpairs p
    rw [line_slotClosed]
    by_cases hp : p = pairOfBits x.block.pair
    · subst hp
      rw [line_modLine_same]
      simp only [appendFragment, List.length_append, List.length_singleton]
      exact hlt named
    · rw [line_modLine_other _ _ hp]
      exact hle

theorem PoolLaw.busOp {s t : State} (hop : BusOp s t) (h : PoolLaw s) : PoolLaw t := by
  cases hop with
  | same hsame =>
    exact h.of_parts hsame.lines hsame.record (fun x hx => (hsame.slots .claim).symm.trans hx) fun x hx hk =>
      ⟨x, hsame.onLine.symm.trans hx, hk, rfl⟩
  | placed hk _ _ =>
    exact h.of_parts rfl rfl (fun x hx => (setSlot_claim _ hk).symm.trans hx) fun x hx hkind =>
      ⟨x, (setSlot_onLine _ _ _).symm.trans hx, hkind, rfl⟩
  | withdrawn hk => exact h.withdrawn hk
  | cleared => exact h.of_parts rfl rfl (fun _ => id) nofun
  | retried _ _ _ hk => exact h.of_parts rfl rfl (fun x hx => (setSlot_claim _ hk).symm.trans hx) nofun
  | @won k x hx hfree _ _ =>
    refine h.mono (fun _ => le_rfl) rfl fun p hp => ?_
    rw [mem_claimedPairs] at hp ⊢
    left
    by_cases hk : k = .claim
    · subst hk
      obtain ⟨y, hy, _⟩ | ⟨y, hy, _, hp⟩ := hp
      · cases hy
      · obtain rfl := Option.some.inj hy
        exact ⟨x, hx, hp⟩
    · obtain ⟨y, hy, hp⟩ | ⟨y, hy, hyk, _⟩ := hp
      · exact ⟨y, (setSlot_claim none hk).symm.trans hy, hp⟩
      · obtain rfl := Option.some.inj hy
        exact absurd hyk hk
  | lost => exact h.of_parts rfl rfl nofun fun x hx hk => ⟨x, hx, hk, rfl⟩
  | closed _ => exact h.slotClosed
  | judged hc _ =>
    refine h.of_parts rfl rfl (fun x hx => ?_) fun x hx hk => ⟨x, hx, hk, rfl⟩
    obtain rfl | rfl := hc
    · cases hx
    · exact hx
  | @claimed blk _ _ hpool hlimit =>
    obtain ⟨hused, _, hpairs⟩ := h
    refine ⟨hused, fun _ => hpool, everyPair_iff.mpr fun p => ?_⟩
    obtain ⟨hle, hlt⟩ := everyPair_iff.mp hpairs p
    refine ⟨hle, fun hp => ?_⟩
    obtain ⟨y, hy, rfl⟩ | hp := (mem_claimedPairs _ p).mp hp
    · obtain rfl := Option.some.inj hy
      exact hlimit
    · exact hlt ((mem_claimedPairs s p).mpr (.inr hp))
  | delivered hx hk _ => exact h.delivered hx hk
  | moved _ =>
    refine PoolLaw.withdrawn (k := .rebase) (PoolLaw.withdrawn (k := .skip)
      (PoolLaw.withdrawn (k := .release) ?_ nofun) nofun) nofun
    exact h.of_parts (by simp) (by simp) (by simp) fun x hx hk => ⟨x, by simpa using hx, hk, rfl⟩
  | _ => exact h

/-- Every queue empty, and room in every queue where a CLAIM stands. -/
theorem PoolLaw.of_empty {s : State} (hq : ∀ p, (line s p).queue = [])
    (hroom : claimedPairs s = [] ∨ ∀ p, 0 < quadGet (config s).sendLimit p) : PoolLaw s := by
  have hused : poolUsed s = 0 := by simp [poolUsed, allPairs, hq]
  refine ⟨by rw [hused]; exact Nat.zero_le _, fun _ => by rw [hused]; decide, everyPair_iff.mpr fun p => ?_⟩
  rw [hq]
  refine ⟨Nat.zero_le _, fun hp => ?_⟩
  obtain h | h := hroom
  · rw [h] at hp
    cases hp
  · exact h p

theorem sendLimit_pos {r : StartRecord} (h : (∃ bits, r = clampRecord bits) ∨ r = .defaults) (p : Pair) :
    0 < quadGet r.sendLimit p := by
  obtain ⟨bits, rfl⟩ | rfl := h
  · simp only [clampRecord, quadGet_quadOf]
    obtain h | h | h | h := sendLimitOfCode_cases (recordPairCode bits p) <;> rw [h] <;> decide
  · cases p <;> decide

theorem poolLaw_leads : Leads (fun s => PoolLaw s ∧ RestLaw s) PoolLaw where
  waits _ _ h := h.1
  tick s h := by
    refine h.1.mono (fun p => by rw [(line_tick_keeps s p).1]) (by simp [config, tick, clockOn]) fun p hp => ?_
    rw [mem_claimedPairs] at hp ⊢
    rwa [tick_port] at hp
  pair _ _ _ step h := by
    obtain ⟨_, _, hclaim, hline⟩ := step.claimParts
    refine h.1.mono (fun r => (step.line_cases r).queue_length_le) (by rw [config, step.group, config]) fun r hr => ?_
    rw [mem_claimedPairs] at hr ⊢
    rwa [hclaim, hline] at hr
  bus _ _ hop h := .busOp hop h.1
  pinReset _ := .of_empty (fun p => by cases p <;> rfl) (.inl rfl)
  busReset s _ := .of_empty (fun p => by
    simp only [busResetState, line, quadGet_quadOf]
    obtain ⟨_, _, h⟩ := busResetLine_atRest (quadGet (config s).enabled p)
    exact h) (.inl rfl)
  reading _ _ _ h := h.1
  stored s r d hm hr h := .of_empty (fun p => by
    obtain ⟨_, _, hq⟩ := h.2.atRest (by simp [hm]) (by simp [hm]) p
    rw [line_storeRecord]
    split <;> exact hq) (.inr fun p => sendLimit_pos hr p)
  active s k _ h := by
    refine h.1.mono (fun p => ?_) (by simp [config, enterActive]) fun p hp => ?_
    · obtain ⟨x, hx⟩ := startHoldOff_eq (config s).holdOffBase (line s p)
      rw [line_enterActive, hx]
    · rw [mem_claimedPairs] at hp ⊢
      rwa [show (enterActive k s).port = s.port by simp [enterActive]] at hp
  spare s _ h := h.1.mono (fun p => by simp only [enterSpare, line, quadGet_quadOf]; exact le_rfl) rfl fun _ => id
  conflict s _ h := by
    refine h.1.mono (fun p => (enterConflict_moves s p).queue_length_le) (by simp [config]) fun p hp => ?_
    rw [mem_claimedPairs] at hp ⊢
    rw [enterConflict_port] at hp
    obtain ⟨x, hx, _⟩ | ⟨x, hx, hk, hp⟩ := hp
    · cases hx
    · obtain ⟨y, hy, rfl⟩ := Option.map_eq_some_iff.mp hx
      exact .inr ⟨y, hy, hk, hp⟩

theorem sendPoolLaw_kept : Kept SendPoolLaw :=
  (poolLaw_leads.mono fun _ h => ⟨h.1, h.2.2.2.2⟩).and
    ((claimSlotLaw_kept.mono fun _ h => h.2.1).and
      ((silentLaw_leads.mono fun _ h => ⟨h.2.2.1, h.2.2.2.1⟩).and
        ((skipTimerLaw_kept.mono fun _ h => h.2.2.2.1).and (restLaw_kept.mono fun _ h => h.2.2.2.2))))

/-- Settles O7: a queue grows at a won CLAIM alone, and a CLAIM is placed where there is room for what it would win. -/
theorem everyStepKeepsTheSendPoolLaw : Obligations.EveryStepKeepsTheSendPoolLaw :=
  fun _ _ => sendPoolLaw_kept.step

end Sys2Proof.Machine

namespace Sys2Proof.Machine

/-! ### The counts of attempts and presence, the line units' and the ring (R8, R27, R29, R57, R82, R84, R106, R176) -/

/-- R8: the failed-attempt counts, slot by slot and on the line. -/
theorem attemptsLaw_iff (s : State) :
    AttemptsLaw s ↔ (∀ k, ∀ x ∈ slotOf s.port k, x.fails ≤ 3) ∧ ∀ x ∈ s.port.onLine, x.fails ≤ 3 :=
  and_congr_left fun _ => ⟨fun h k => h k (by cases k <;> decide), fun h k _ => h k⟩

theorem AttemptsLaw.of_parts {s t : State} (h : AttemptsLaw s)
    (hslots : ∀ k, ∀ x ∈ slotOf t.port k, x ∈ slotOf s.port k ∨ x.fails ≤ 3)
    (hline : ∀ x ∈ t.port.onLine, (∃ y ∈ s.port.onLine, x.fails = y.fails) ∨ x.fails ≤ 3) : AttemptsLaw t := by
  rw [attemptsLaw_iff] at h ⊢
  obtain ⟨hs, hl⟩ := h
  refine ⟨fun k x hx => (hslots k x hx).elim (hs k x) id, fun x hx => (hline x hx).elim ?_ id⟩
  rintro ⟨y, hy, h⟩
  exact h.le.trans (hl y hy)

theorem mem_slotOf_emptied {b : BusPort} {k j : SlotKind} {x : PendingBlock} (h : x ∈ slotOf (setSlot b k none) j) :
    x ∈ slotOf b j := by
  obtain h' | h' := slotOf_emptied b k j <;> rw [h'] at h
  · exact h
  · cases h

theorem mem_slotOf_setSlot {b : BusPort} {k j : SlotKind} {x y : PendingBlock} (h : x ∈ slotOf (setSlot b k (some y)) j) :
    x ∈ slotOf b j ∨ x = y := by
  by_cases hj : j = k
  · subst hj
    rw [slotOf_setSlot_same] at h
    exact .inr (Option.some.inj h).symm
  · rw [slotOf_setSlot_other _ _ hj] at h
    exact .inl h

theorem AttemptsLaw.placed {s : State} (h : AttemptsLaw s) (k : SlotKind) (blk : BusBlock) : AttemptsLaw (placeBlock k blk s) :=
  h.of_parts (fun _ _ hx => (mem_slotOf_setSlot hx).imp id fun hx => by rw [hx]; exact Nat.zero_le _)
    fun x hx => .inl ⟨x, (setSlot_onLine _ _ _).symm.trans hx, rfl⟩

theorem AttemptsLaw.withdrawn {s : State} (h : AttemptsLaw s) (k : SlotKind) : AttemptsLaw (withdrawBlock k s) := by
  refine h.of_parts (fun j x hx => .inl (mem_slotOf_emptied (by rwa [withdrawBlock_slots] at hx))) fun x hx => ?_
  obtain ⟨y, hy, _, _, hfails, _⟩ := withdrawBlock_onLine k s x hx
  exact .inl ⟨y, hy, hfails⟩

theorem AttemptsLaw.of_port {s t : State} (h : AttemptsLaw s) (hp : t.port = s.port) : AttemptsLaw t := by
  unfold AttemptsLaw
  rwa [hp]

theorem AttemptsLaw.of_silent {s : State} (hs : ∀ k, slotOf s.port k = none) (hl : ∀ x ∈ s.port.onLine, x.fails ≤ 3) :
    AttemptsLaw s := (attemptsLaw_iff s).mpr ⟨fun k => by simp [hs], hl⟩

theorem AttemptsLaw.busOp {s t : State} (hop : BusOp s t) (h : AttemptsLaw s) : AttemptsLaw t := by
  have same (x : OnLine) (hx : x ∈ s.port.onLine) : (∃ y ∈ s.port.onLine, x.fails = y.fails) ∨ x.fails ≤ 3 := .inl ⟨x, hx, rfl⟩
  cases hop with
  | same hsame => exact h.of_parts (by simp only [hsame.slots]; exact fun _ _ => .inl) (by rw [hsame.onLine]; exact same)
  | placed _ _ _ => exact h.placed _ _
  | withdrawn _ => exact h.withdrawn _
  | cleared => exact h.of_parts (fun _ _ hx => .inl (by rwa [slotOf_with_onLine] at hx)) nofun
  | retried _ _ hfails _ =>
    refine h.of_parts (fun j y hy => ?_) nofun
    rw [slotOf_with_onLine] at hy
    exact (mem_slotOf_setSlot hy).imp id fun hy => by rw [hy]; exact hfails
  | @won k x hx _ _ _ =>
    refine h.of_parts (fun j y hy => .inl (mem_slotOf_emptied (by rwa [slotOf_with_onLine] at hy))) fun y hy => .inr ?_
    obtain rfl := Option.mem_some_iff.mp hy
    exact ((attemptsLaw_iff s).mp h).1 k x hx
  | lost => exact h.of_parts (fun _ _ hx => .inl (mem_slotOf_emptied hx)) (by rw [setSlot_onLine]; exact same)
  | closed _ => exact h.of_parts (fun j x hx => .inl (mem_slotOf_emptied (by rwa [slotClosed_slots] at hx))) same
  | @judged c _ _ _ _ hc _ =>
    refine h.of_parts (fun j x hx => .inl ?_) same
    cases j with
    | claim =>
      obtain rfl | rfl := hc
      · cases hx
      · exact hx
    | _ => exact hx
  | claimed _ _ _ _ => exact h.placed _ _
  | delivered _ _ _ =>
    refine h.of_parts (fun j x hx => .inl ?_) nofun
    rw [slotClosed_slots] at hx
    rw [← slotOf_with_onLine s.port none j]
    exact mem_slotOf_emptied hx
  | moved _ =>
    refine AttemptsLaw.withdrawn (AttemptsLaw.withdrawn (AttemptsLaw.withdrawn (h.of_port ?_) .release) .skip) .rebase
    exact purge_port _
  | _ => exact h

theorem PairStep.attempts {p : Pair} {s t : State} (step : PairStep p s t) (h : AttemptsLaw s) : AttemptsLaw t := by
  obtain hp | ⟨_, hp⟩ := step.port
  · exact h.of_port hp
  · obtain h' | ⟨k, e, _, _, h'⟩ := placeSkip_cases s
    · exact h.of_port (by rw [hp, h'])
    · exact (h.placed .skip ⟨seqValue e, stationAddress k, 0, []⟩).of_port (by rw [hp, h'])

theorem attemptsLaw_kept : Kept AttemptsLaw where
  waits _ _ h := h
  tick s h := h.of_port (by simp)
  pair _ _ _ step := step.attempts
  bus _ _ := .busOp
  pinReset _ := .of_silent (fun k => by cases k <;> rfl) nofun
  busReset _ _ := .of_silent (fun k => by cases k <;> rfl) nofun
  reading _ _ _ h := h
  stored _ _ _ _ _ h := h
  active _ _ _ h := h.of_port (by simp [enterActive])
  spare _ _ h := h
  conflict s _ h := by
    refine .of_silent (fun k => ?_) fun x hx => ?_
    · rw [enterConflict_port]
      exact emptySlots_slots s k
    · rw [enterConflict_port] at hx
      obtain ⟨y, hy, rfl⟩ := Option.map_eq_some_iff.mp hx
      exact h.2 y hy

theorem PresenceLaw.of_table {s t : State} (h : PresenceLaw s) (ht : t.group.table = s.group.table) : PresenceLaw t := by
  unfold PresenceLaw
  rwa [ht]

theorem presenceLaw_absent {s : State} (h : s.group.table = .all .absent) : PresenceLaw s := by
  unfold PresenceLaw
  rw [h]
  decide

theorem presenceLaw_kept : Kept PresenceLaw where
  waits _ _ h := h
  tick s h := h.of_table (by simp [tick, clockOn])
  pair _ _ _ step h := h.of_table (by rw [step.group])
  bus s t hop h := by
    cases hop with
    | same hsame => exact hsame.presence h
    | moved _ => exact h.of_table (by simp)
    | _ => exact h
  pinReset _ := presenceLaw_absent rfl
  busReset s h := by
    unfold busResetState PresenceLaw busResetGroup
    dsimp only
    split
    · exact h
    · exact h
    · exact presenceLaw_absent (s := { s with group.table := .all .absent }) rfl
  reading _ _ _ h := h
  stored _ _ _ _ _ h := h
  active _ _ _ h := h.of_table (by simp [enterActive])
  spare _ _ h := h
  conflict _ _ h := h.of_table (by simp)

theorem ringLaw_kept : Kept RingLaw where
  waits _ _ h := h
  tick s h := by unfold RingLaw; simpa [tick, clockOn, chooseDue_status] using h
  pair _ _ _ step := step.ring
  bus s t hop h := by
    cases hop with
    | same hsame => exact hsame.ring h
    | moved _ => unfold RingLaw withdrawBlock purge; exact h
    | _ => exact h
  pinReset _ := Nat.zero_le _
  busReset _ _ := Nat.zero_le _
  reading _ _ _ h := h
  stored _ _ _ _ _ h := h
  active s k _ h := by unfold enterActive purge; exact h
  spare _ _ h := h
  conflict s _ h := by
    rw [enterConflict_eq]
    exact (PairStep.conflictPair _ _).ring ((PairStep.conflictPair _ _).ring ((PairStep.conflictPair _ _).ring
      ((PairStep.conflictPair _ _).ring h)))

/-! #### The line units -/

/-- What it takes for a predicate of a line unit and the record in use to hold of every pair at every moment. -/
structure LineLaw (P : StartRecord → LineUnit → Prop) : Prop where
  moves : ∀ {g : GroupMonitor} {u v}, LineMove g u v → P (g.record.getD .defaults) u → P (g.record.getD .defaults) v
  chosen : ∀ {c u} (s : State), u.tx = none → P c u → P c (chooseLine s u)
  ticked : ∀ {c u}, P c u → P c (tickLine u)
  queued : ∀ {c u} q, P c u → P c { u with queue := q }
  held : ∀ {c u} x, P c u → P c { u with holdOff := x }
  off : ∀ {c u}, P c u → P c (lineOff u)
  reset : ∀ {c u}, P c u → P c .reset
  defaults : P .defaults .reset

/-- Every pair's line unit, under the record in use. -/
abbrev EachLine (P : StartRecord → LineUnit → Prop) (s : State) : Prop := ∀ p, P (config s) (line s p)

theorem LineLaw.moved {P : StartRecord → LineUnit → Prop} (hP : LineLaw P) {g : GroupMonitor} {u v : LineUnit}
    (h : LineMoves g u v) (hu : P (g.record.getD .defaults) u) : P (g.record.getD .defaults) v :=
  h.keeps (fun _ _ => hP.moves) hu

/-- From `A`, under which the line units meet the law, and would under a new record. -/
theorem LineLaw.leads {A : State → Prop} {P : StartRecord → LineUnit → Prop} (hP : LineLaw P) (hA : ∀ s, A s → EachLine P s)
    (hstored : ∀ s r, s.group.mode = .reading → ((∃ bits, r = clampRecord bits) ∨ r = .defaults) → A s → ∀ p, P r (line s p)) :
    Leads A (EachLine P) where
  waits s _ h := hA s h
  tick s h p := by
    rw [line_tick, show config (tick s) = config s by simp [config, tick, clockOn]]
    refine hP.ticked ?_
    split
    · exact hA s h p
    next htx => exact hP.chosen s (by simpa using htx) (hA s h p)
  pair _ s t step h r := by
    have hc : config t = config s := by rw [config, step.group, config]
    rw [hc]
    exact hP.moved (step.line_cases r) (hA s h r)
  bus s t hop h := by
    cases hop with
    | same hsame =>
      intro p
      rw [show config t = config s by rw [config, hsame.record, config], show line t p = line s p by simp [line, hsame.lines]]
      exact hA s h p
    | @delivered x f _ _ _ =>
      intro p
      rw [line_slotClosed]
      by_cases hp : p = pairOfBits x.block.pair
      · subst hp
        rw [line_modLine_same]
        exact hP.queued _ (hA s h _)
      · rw [line_modLine_other _ _ hp]
        exact hA s h p
    | moved _ =>
      intro p
      simpa [config, line] using hA s h p
    | _ => exact hA s h
  pinReset _ p := by cases p <;> exact hP.defaults
  busReset s h p := by
    have hc : config (busResetState s) = config s := by
      unfold config
      rw [show (busResetState s).group.record = s.group.record from (busResetGroup_record s.group).1]
    have reset := hP.reset (hA s h p)
    rw [hc]
    simp only [busResetState, line, quadGet_quadOf]
    cases quadGet (config s).enabled p
    · exact hP.off reset
    · exact reset
  reading s _ _ h := hA s h
  stored s r d hm hr h p := by
    have rest := hstored s r hm hr h p
    rw [line_storeRecord]
    split
    · exact rest
    · exact hP.off rest
  active s k _ h p := by
    obtain ⟨x, hx⟩ := startHoldOff_eq (config s).holdOffBase (line s p)
    rw [line_enterActive, hx, show config (enterActive k s) = config s by simp [config, enterActive]]
    exact hP.held x (hA s h p)
  spare s _ h p := by
    simp only [enterSpare, line, quadGet_quadOf]
    exact hP.off (hA s h p)
  conflict s _ h p := by
    rw [show config (enterConflict s) = config s by simp [config]]
    exact hP.moved (g := (conflictBegun s).group) (enterConflict_moves s p) (hA s h p)

theorem lineRanges_law : LineLaw (fun _ u => LineRanges u) where
  moves h hu := h.keeps_ranges hu
  chosen s _ h := by
    obtain ⟨_, _, _, _, _, _, hc⟩ := chooseLine_only s _
    rw [hc]
    exact h
  ticked h := h
  queued _ h := h
  held _ h := h
  off {c u} h := by
    obtain ⟨_, hs, _, hk, hd, hsvc, hq, _, _⟩ := lineOff_fields u
    exact .of_cleared (hk.le.trans h.1) (hd.le.trans h.2.1) hsvc hq (by simp [hs])
  reset _ := by unfold LineRanges; decide
  defaults := by unfold LineRanges; decide

theorem rangesLaw_kept : Kept RangesLaw := by
  have lines : Leads RangesLaw LineRangesLaw :=
    (lineRanges_law.leads (fun _ h => everyPair_iff.mp h.2.2.1) fun _ _ _ _ h => everyPair_iff.mp h.2.2.1).imp
      fun _ => everyPair_iff.mpr
  exact (attemptsLaw_kept.mono fun _ h => h.1).and ((presenceLaw_kept.mono fun _ h => h.2.1).and
    (lines.and (ringLaw_kept.mono fun _ h => h.2.2.2)))

/-- Settles O10: every count is bounded where it is written. -/
theorem everyStepKeepsTheCountsInRange : Obligations.EveryStepKeepsTheCountsInRange :=
  fun _ _ => rangesLaw_kept.step

/-! ### The rates (R20, R21, R93, R96, R102, R115) -/

/-- The rates of a line unit under a record whose own rates are in order. -/
abbrev RatesUnder (c : StartRecord) (u : LineUnit) : Prop := RatesConfigured c ∧ LineRates c u

theorem ratesConfigured {r : StartRecord} (h : (∃ bits, r = clampRecord bits) ∨ r = .defaults) : RatesConfigured r := by
  obtain ⟨bits, rfl⟩ | rfl := h
  · obtain ⟨_, _, _, _, _, _, _, _, _, _, _, _, _, _, _, _, _, _, _, hmin, hle, hmax, _⟩ := storedRecordIsInRange bits
    exact ⟨hmin, hle, hmax⟩
  · decide

theorem LineUnit.reset_rates (c : StartRecord) : LineRates c .reset := .of_idle (.inr (.inl rfl)) rfl rfl rfl

theorem echoBegun_tickLine (u : LineUnit) : echoBegun (tickLine u) = echoBegun u := by
  simp only [echoBegun, tickLine, tickTrain]
  cases u.train.echoDeadline <;> rfl

theorem LineRates.ticked {c : StartRecord} {u : LineUnit} (h : LineRates c u) : LineRates c (tickLine u) := by
  obtain ⟨hservice, hout, hask, htrain, hqualify⟩ := h
  refine ⟨hservice, hout, hask, fun hs => ?_, hqualify⟩
  unfold TrainRates
  rw [echoBegun_tickLine]
  exact htrain hs

theorem lineRates_law : LineLaw RatesUnder where
  moves h hu := ⟨hu.1, h.keeps_rates rfl hu.1.1 hu.2⟩
  chosen s htx h := ⟨h.1, chooseLine_rates h.2 htx s⟩
  ticked h := ⟨h.1, h.2.ticked⟩
  queued _ h := h
  held _ h := h
  off h := ⟨h.1, .of_idle (.inl rfl) rfl rfl rfl⟩
  reset h := ⟨h.1, LineUnit.reset_rates _⟩
  defaults := ⟨by decide, LineUnit.reset_rates _⟩

/-- A line unit at rest keeps its rates under any record: it has none. -/
theorem LineRates.atRest {c c' : StartRecord} {u : LineUnit} (h : LineRates c u) (hr : AtRest u) : LineRates c' u := by
  obtain ⟨_, hout, hask, _, _⟩ := h
  obtain ⟨hctl, hswitch⟩ := hout hr.not_inService
  obtain ⟨hs, _, _⟩ := hr
  exact .of_idle (hs.imp id .inl) hctl hswitch (hask (hs.imp id .inl))

theorem rateLaw_iff (s : State) : (RatesConfigured (config s) ∧ EveryPair (fun p => LineRates (config s) (line s p))) ↔
    EachLine RatesUnder s :=
  ⟨fun ⟨hc, hl⟩ p => ⟨hc, everyPair_iff.mp hl p⟩, fun h => ⟨(h .a).1, everyPair_iff.mpr fun p => (h p).2⟩⟩

theorem rateLaw_kept : Kept RateLaw := by
  have lines : Leads RateLaw (EachLine RatesUnder) :=
    lineRates_law.leads (fun s h => (rateLaw_iff s).mp ⟨h.1, h.2.1⟩) fun s r hm hr h p =>
      ⟨ratesConfigured hr, (everyPair_iff.mp h.2.1 p).atRest (h.2.2.atRest (by simp [hm]) (by simp [hm]) p)⟩
  exact (lines.and (restLaw_kept.mono fun _ h => h.2.2)).imp fun s h =>
    ⟨((rateLaw_iff s).mpr h.1).1, ((rateLaw_iff s).mpr h.1).2, h.2⟩

/-- Settles O9: each move of a line unit keeps its rates, and the record changes only while every pair is at rest. -/
theorem everyStepKeepsTheRateLaw : Obligations.EveryStepKeepsTheRateLaw :=
  fun _ _ => rateLaw_kept.step

end Sys2Proof.Machine

namespace Sys2Proof.Machine

/-! ### The own horizon (R155) -/

/-- R155: no component of `l` lies below `x`, which is one of them. -/
theorem lowestToE_spec (e : Seq) (l : List Seq) :
    (lowestToE e l = none ↔ l = []) ∧
      ∀ x, lowestToE e l = some x → x ∈ l ∧ ∀ y ∈ l, horizonRank e x ≤ horizonRank e y := by
  induction l with
  | nil => simp [lowestToE]
  | cons a l ih =>
    obtain ⟨hnone, hsome⟩ := ih
    unfold lowestToE
    split
    · next h => simp_all
    · next y h =>
      obtain ⟨hy, hmin⟩ := hsome y h
      refine ⟨by split <;> simp, fun x hx => ?_⟩
      split at hx <;> obtain rfl := Option.some.inj hx
      · next hle => exact ⟨by simp, by simpa using fun z hz => le_trans hle (hmin z hz)⟩
      · next hle => exact ⟨by simp [hy], by simpa using ⟨by omega, hmin⟩⟩

theorem horizonRank_le {e x y : Seq} (h : horizonRank e x ≤ horizonRank e y) :
    (8192 ≤ (y - e).toNat → 8192 ≤ (x - e).toNat ∧ (x - e).toNat ≤ (y - e).toNat) ∧
      ((y - e).toNat < 8192 → 8192 ≤ (x - e).toNat ∨ (x - e).toNat ≤ (y - e).toNat) := by
  have hx := (x - e).isLt
  have hy := (y - e).isLt
  simp only [horizonRank, seqDist, Config.staleFrom] at h
  split at h <;> split at h <;> omega

theorem mem_servingLines {s : State} {u : LineUnit} :
    u ∈ servingLines s ↔ ∃ p, inService (line s p) = true ∧ u = line s p := by
  simp only [servingLines, List.mem_filter, List.mem_map]
  constructor
  · rintro ⟨⟨p, -, rfl⟩, hu⟩
    exact ⟨p, hu, rfl⟩
  · rintro ⟨p, hu, rfl⟩
    exact ⟨⟨p, mem_allPairs p, rfl⟩, hu⟩

/-- R155: what the own horizon is the lowest of. -/
def components (s : State) : List Seq :=
  (servingLines s).filterMap (fun u => u.lastReceived.map (· + 1)) ++ (s.holdQueue.entries.head?.map (·.seq)).toList

theorem mem_components {s : State} {x : Seq} :
    x ∈ components s ↔ (∃ p q, inService (line s p) = true ∧ (line s p).lastReceived = some q ∧ x = q + 1) ∨
      ∃ h t, s.holdQueue.entries = h :: t ∧ x = h.seq := by
  simp only [components, List.mem_append, List.mem_filterMap, mem_servingLines, Option.mem_toList, Option.map_eq_some_iff,
    List.head?_eq_some_iff]
  constructor
  · rintro (⟨_, ⟨p, hp, rfl⟩, q, hq, rfl⟩ | ⟨h, ⟨t, ht⟩, rfl⟩)
    · exact .inl ⟨p, q, hp, hq, rfl⟩
    · exact .inr ⟨h, t, ht, rfl⟩
  · rintro (⟨p, q, hp, hq, rfl⟩ | ⟨h, t, ht, rfl⟩)
    · exact .inl ⟨_, ⟨p, hp, rfl⟩, q, hq, rfl⟩
    · exact .inr ⟨h, ⟨t, ht⟩, rfl⟩

theorem ownHorizon_unheard {s : State} {p : Pair} (hp : inService (line s p) = true)
    (hn : (line s p).lastReceived = none) : ownHorizon s = .unknown := by
  have : (servingLines s).any (fun u => u.lastReceived.isNone) = true :=
    List.any_eq_true.2 ⟨line s p, mem_servingLines.2 ⟨p, hp, rfl⟩, by simp [hn]⟩
  unfold ownHorizon
  split <;> simp [this]

theorem ownHorizon_heard {s : State} {e : Seq} (he : s.release.e = some e)
    (h : ∀ p, inService (line s p) = true → (line s p).lastReceived ≠ none) :
    ownHorizon s = match lowestToE e (components s) with
      | none => .openEnded
      | some x => .bound x := by
  have : (servingLines s).any (fun u => u.lastReceived.isNone) = false := by
    refine List.any_eq_false.2 fun u hu => ?_
    obtain ⟨p, hp, rfl⟩ := mem_servingLines.1 hu
    simpa using h p hp
  simp only [ownHorizon, he, this]
  rfl

/-- Settles O22: the search for the lowest component keeps a minimum of R155's order. -/
theorem ownHorizonIsTheLowestComponent : Obligations.OwnHorizonIsTheLowestComponent := by
  intro s e he
  refine ⟨fun ⟨p, hp, hn⟩ => ownHorizon_unheard hp hn, fun hout hempty => ?_, fun hheard hsome => ?_⟩
  · have hnil : components s = [] := List.eq_nil_iff_forall_not_mem.2 fun x hx => by
      rcases mem_components.1 hx with ⟨p, q, hp, -⟩ | ⟨h, t, ht, -⟩ <;> simp_all
    rw [ownHorizon_heard he fun p hp => by simp [hout p] at hp, hnil]
    rfl
  · obtain ⟨hnone, hlow⟩ := lowestToE_spec e (components s)
    rw [ownHorizon_heard he hheard]
    cases hx : lowestToE e (components s) with
    | none =>
      have hnil := hnone.1 hx
      exfalso
      rcases hsome with ⟨p, hp⟩ | hne
      · obtain ⟨q, hq⟩ := Option.ne_none_iff_exists'.1 (hheard p hp)
        simpa [hnil] using mem_components.2 (.inl ⟨p, q, hp, hq, rfl⟩)
      · obtain ⟨h, t, ht⟩ := List.exists_cons_of_ne_nil hne
        simpa [hnil] using mem_components.2 (.inr ⟨h, t, ht, rfl⟩)
    | some x =>
      obtain ⟨hmem, hmin⟩ := hlow x hx
      exact ⟨x, rfl, mem_components.1 hmem,
        fun p q hp hq => horizonRank_le (hmin _ (mem_components.2 (.inl ⟨p, q, hp, hq, rfl⟩))),
        fun h t ht => horizonRank_le (hmin _ (mem_components.2 (.inr ⟨h, t, ht, rfl⟩)))⟩

end Sys2Proof.Machine

namespace Sys2Proof.Machine

/-! ### The evidence skip (R156, R157) -/

/-- R156: OPEN, or BOUND at a distance of 1 to 8191 from E. -/
def Ahead (e : Seq) (z : Horizon) : Prop := z = .openEnded ∨ ∃ x, z = .bound x ∧ 1 ≤ (x - e).toNat ∧ (x - e).toNat ≤ 8191

/-- R156: UNKNOWN, or BOUND at E or at a stale value. -/
def NotAhead (e : Seq) (z : Horizon) : Prop := z = .unknown ∨ ∃ x, z = .bound x ∧ ((x - e).toNat = 0 ∨ 8192 ≤ (x - e).toNat)

theorem horizonAhead_iff (e : Seq) (z : Horizon) : horizonAhead e z = true ↔ Ahead e z := by
  cases z with
  | unknown => simp [horizonAhead, Ahead]
  | openEnded => simp [horizonAhead, Ahead]
  | bound x =>
    simp only [horizonAhead, Ahead, decide_eq_true_eq, seqDist, Config.staleFrom]
    simp [Nat.lt_succ_iff]

theorem NotAhead.not_ahead {e : Seq} {z : Horizon} (h : NotAhead e z) : ¬Ahead e z := by
  rintro (rfl | ⟨x, rfl, h1, h2⟩) <;> rcases h with h | ⟨y, h, hy⟩ <;> cases h
  omega

/-- A station that holds an entry has an own horizon, or does not know it. -/
theorem ownHorizon_not_open {s : State} (h : s.holdQueue.entries ≠ []) : ownHorizon s ≠ .openEnded := by
  obtain ⟨x, t, hx⟩ := List.exists_cons_of_ne_nil h
  unfold ownHorizon
  split
  · simp
  · next e he =>
    split
    · simp
    · show (match lowestToE e (components s) with | none => Horizon.openEnded | some x => .bound x) ≠ _
      split
      · next hn =>
        have := mem_components (s := s).2 (.inr ⟨x, t, hx, rfl⟩)
        simp [(lowestToE_spec e _).1.1 hn] at this
      · simp

theorem mem_presentPeers {s : State} {k : StationNo} (hk : s.group.number = some k) {x : PeerEntry} :
    x ∈ presentPeers s ↔ ∃ j, j ≠ k ∧ (stationGet s.group.table j).present = true ∧ stationGet s.group.table j = x := by
  simp only [presentPeers, List.mem_filter, List.mem_map, hk]
  constructor
  · rintro ⟨⟨j, ⟨-, hj⟩, rfl⟩, hp⟩
    exact ⟨j, by simpa using hj, hp, rfl⟩
  · rintro ⟨j, hj, hp, rfl⟩
    exact ⟨⟨j, ⟨by cases j <;> decide, by simpa using hj⟩, rfl⟩, hp⟩

/-- R156: with an entry held, the group horizon is ahead of E when every part of it is. -/
theorem groupAhead_iff {s : State} {k : StationNo} {e : Seq} (hk : s.group.number = some k) (he : s.release.e = some e)
    (hne : s.holdQueue.entries ≠ []) :
    groupAhead s = true ↔ Ahead e (ownHorizon s) ∧
      ∀ j, j ≠ k → (stationGet s.group.table j).present = true → Ahead e (stationGet s.group.table j).horizon := by
  have hpeers : (∀ x ∈ presentPeers s, horizonAhead e x.horizon = true) ↔
      ∀ j, j ≠ k → (stationGet s.group.table j).present = true → Ahead e (stationGet s.group.table j).horizon := by
    constructor
    · exact fun h j hj hp => (horizonAhead_iff _ _).1 (h _ ((mem_presentPeers hk).2 ⟨j, hj, hp, rfl⟩))
    · intro h x hx
      obtain ⟨j, hj, hp, rfl⟩ := (mem_presentPeers hk).1 hx
      exact (horizonAhead_iff _ _).2 (h j hj hp)
  have hbound : Ahead e (ownHorizon s) → isBound (ownHorizon s) = true := by
    rintro (h | ⟨x, h, -⟩)
    · exact absurd h (ownHorizon_not_open hne)
    · rw [h]; rfl
  simp only [groupAhead, he, Bool.and_eq_true, List.all_cons, List.any_cons, List.all_map, List.all_eq_true, Function.comp_apply,
    horizonAhead_iff e (ownHorizon s), hpeers, Bool.or_eq_true]
  constructor
  · exact fun h => h.1
  · exact fun h => ⟨h, .inl (hbound h.1)⟩

theorem waiting_iff {s : State} {e : Seq} (he : s.release.e = some e) :
    waiting s = true ↔ ∃ h t, s.holdQueue.entries = h :: t ∧ h.seq ≠ e := by
  cases hq : s.holdQueue.entries <;> simp [waiting, headAtE, hq, he]

theorem placeSkip_eq {s : State} {k : StationNo} {e : Seq} (hk : s.group.number = some k) (he : s.release.e = some e) :
    placeSkip s = placeBlock .skip ⟨seqValue e, stationAddress k, 0, []⟩ s := by simp [placeSkip, hk, he]

/-- R157: when an ACTIVE station places SKIP(E) at once. -/
def Skips (k : StationNo) (e : Seq) (s : State) : Prop :=
  (∃ h t, s.holdQueue.entries = h :: t ∧ h.seq ≠ e) ∧ s.release.hold = false ∧ Ahead e (ownHorizon s) ∧
    ∀ j, j ≠ k → (stationGet s.group.table j).present = true → Ahead e (stationGet s.group.table j).horizon

section
variable {s : State} {k : StationNo} {e : Seq} (hk : s.group.number = some k) (he : s.release.e = some e)
include hk he

theorem evidenceSkip_of_skips (hm : s.group.mode = .active) (h : Skips k e s) : evidenceSkip s = placeBlock .skip ⟨seqValue e, stationAddress k, 0, []⟩ s := by
  obtain ⟨hw, hh, ha⟩ := h
  have hne : s.holdQueue.entries ≠ [] := by obtain ⟨x, t, hx, -⟩ := hw; simp [hx]
  simp [evidenceSkip, isActive, hm, (waiting_iff he).2 hw, hh, (groupAhead_iff hk he hne).2 ha, placeSkip_eq hk he]

theorem evidenceSkip_of_not_skips (h : ¬Skips k e s) : evidenceSkip s = s := by
  unfold evidenceSkip
  split
  · next hc =>
    simp only [Bool.and_eq_true, Bool.not_eq_true'] at hc
    obtain ⟨⟨⟨-, hw⟩, hh⟩, ha⟩ := hc
    have hw' := (waiting_iff he).1 hw
    have hne : s.holdQueue.entries ≠ [] := by obtain ⟨x, t, hx, -⟩ := hw'; simp [hx]
    exact absurd ⟨hw', hh, (groupAhead_iff hk he hne).1 ha⟩ h
  · rfl

end

/-- Settles O23: by whether the evidence skip's conditions hold. -/
theorem evidenceSkipNeedsEveryHorizonAhead : Obligations.EvidenceSkipNeedsEveryHorizonAhead := by
  intro s k e hm hk he
  refine ⟨fun ⟨hne, hhead, hh, hown, hpeers⟩ => evidenceSkip_of_skips hk he hm ⟨?_, hh, hown, hpeers⟩,
    fun h => evidenceSkip_of_not_skips hk he fun ⟨⟨x, t, hx, hxe⟩, hh, hown, hpeers⟩ => ?_⟩
  · obtain ⟨x, t, hx⟩ := List.exists_cons_of_ne_nil hne
    exact ⟨x, t, hx, hhead x t hx⟩
  · rcases h with h | ⟨y, r, hy, hye⟩ | h | h | ⟨j, hj, hp, h⟩
    · simp [hx] at h
    · rw [hx] at hy
      exact hxe ((List.cons.inj hy).1 ▸ hye)
    · simp [hh] at h
    · exact NotAhead.not_ahead h hown
    · exact NotAhead.not_ahead h (hpeers j hj hp)

/-! ### The RELEASE of the head entry (R150) -/

/-- R150: when an ACTIVE station places the RELEASE of its head. -/
theorem tryRelease_eq {s : State} {k : StationNo} {e : Seq} {h : HoldEntry} {t : List HoldEntry} (hm : s.group.mode = .active)
    (hk : s.group.number = some k) (he : s.release.e = some e) (hq : s.holdQueue.entries = h :: t) :
    tryRelease s = if h.seq = e ∧ s.release.hold = false ∧ s.port.release = none ∧ ownOnLine s.port .release = false then
      placeBlock .release (releaseBlock k s.release.broken h) s else s := by
  simp only [tryRelease, hk, hq, isActive, hm, headAtE, he]
  congr 1
  simp [and_assoc]

/-- The marks byte of a RELEASE, mark by mark. -/
theorem releaseFlags_bits (a b c : Bool) :
    (releaseFlags a b c).getLsbD 7 = a ∧ (releaseFlags a b c).getLsbD 6 = b ∧ (releaseFlags a b c).getLsbD 5 = c := by
  cases a <;> cases b <;> cases c <;> decide

/-- The two bytes of a number at the front of a body, read back. -/
theorem bodyWord_byte2 (n : Nat) (rest : List Byte) : bodyWord (byte2 n ++ rest) 0 = n % 65536 := by
  simp only [bodyWord, bodyByte, byte2, List.cons_append, List.nil_append, List.getD_cons_zero, List.getD_cons_succ, BitVec.toNat_ofNat]
  omega

/-- Settles O24: by the head entry, and the RELEASE's fields by its marks. -/
theorem releaseIsBuiltFromTheHeadAtE : Obligations.ReleaseIsBuiltFromTheHeadAtE := by
  intro s k e h t hm hk he hq
  rw [tryRelease_eq hm hk he hq]
  constructor
  · intro hc
    obtain ⟨hs, he', hb⟩ := releaseFlags_bits h.startMark h.endMark (if h.startMark then false else s.release.broken)
    refine ⟨releaseBlock k s.release.broken h, if_pos hc, ?_, rfl, rfl, ?_, hs, he', ?_⟩
    · rw [← hc.1]
      exact valueSeq_seqValue _
    · simpa only [releaseBlock, List.append_assoc] using bodyWord_byte2 _ _
    · refine hb.trans ?_
      cases h.startMark <;> simp
  · rintro hc
    refine if_neg fun ⟨h1, h2, h3, h4⟩ => ?_
    rcases hc with hc | hc | hc | hc
    · exact hc h1
    · simp [h2] at hc
    · exact hc h3
    · simp [h4] at hc

end Sys2Proof.Machine

namespace Sys2Proof.Machine

/-! ### A move of E (R145) -/

/-- R145: the moved state before the RELEASE and the evidence skip: the queue purged, the three blocks withdrawn, the
skip timer set. -/
def movedE (s : State) : State :=
  let s := withdrawBlock .rebase (withdrawBlock .skip (withdrawBlock .release (purge s)))
  { s with release.skipTimer := if waiting s then loadedSkip s else .stopped }

theorem moveE_eq (s : State) : moveE s = evidenceSkip (tryRelease (movedE s)) := rfl

theorem purge_eq {s : State} {e : Seq} (he : s.release.e = some e) :
    purge s = { s with
      holdQueue.entries := s.holdQueue.entries.filter (inWindow e)
      status.live.station.stale :=
        satAdd s.status.live.station.stale (s.holdQueue.entries.length - (s.holdQueue.entries.filter (inWindow e)).length) } := by
  simp only [purge, he]
  rfl

theorem effectiveSkip_congr {s t : State} (hl : t.lines = s.lines) (hc : config t = config s) : effectiveSkip t = effectiveSkip s := by
  simp only [effectiveSkip, servingLines, show line t = line s from funext fun p => congrArg (quadGet · p) hl, hc]

theorem ownHorizon_congr {s t : State} (hl : t.lines = s.lines) (he : t.release.e = s.release.e) (hq : t.holdQueue = s.holdQueue) :
    ownHorizon t = ownHorizon s := by
  have hs : servingLines t = servingLines s := by
    simp only [servingLines, show line t = line s from funext fun p => congrArg (quadGet · p) hl]
  unfold ownHorizon
  rw [hs, he, hq]

/-- The skip timer of a moved station: loaded while its head is not at E, and STOPPED otherwise. -/
theorem skipTimer_of_head {s : State} {e : Seq} (he : s.release.e = some e) :
    (if waiting s then loadedSkip s else .stopped) =
      match s.holdQueue.entries with
      | h :: _ =>
        if h.seq = e then .stopped
        else if s.release.hold then .frozen (effectiveSkip s) else .running (effectiveSkip s)
      | [] => .stopped := by
  cases hq : s.holdQueue.entries with
  | nil => simp [waiting, hq]
  | cons h t =>
    by_cases hh : h.seq = e
    · simp [waiting, headAtE, hq, he, hh]
    · simp [waiting, headAtE, hq, he, hh, loadedSkip]

/-- R145 with the line free: what the moved station holds before the RELEASE and the evidence skip. -/
theorem movedE_parts {s : State} {e : Seq} (he : s.release.e = some e) (hl : s.port.onLine = none) :
    let kept := s.holdQueue.entries.filter (inWindow e)
    let x := match kept with
      | h :: _ =>
        if h.seq = e then .stopped
        else if s.release.hold then .frozen (effectiveSkip s) else .running (effectiveSkip s)
      | [] => .stopped
    movedE s = { s with
      holdQueue.entries := kept
      status.live.station.stale := satAdd s.status.live.station.stale (s.holdQueue.entries.length - kept.length)
      port := { s.port with release := none, skip := none, rebase := none }
      release.skipTimer := x } := by
  have hx := skipTimer_of_head (s := withdrawBlock .rebase (withdrawBlock .skip (withdrawBlock .release (purge s)))) (e := e)
    (by simpa using he)
  rw [purge_eq he] at hx
  have hskip : effectiveSkip (withdrawBlock .rebase (withdrawBlock .skip (withdrawBlock .release (purge s)))) = effectiveSkip s :=
    effectiveSkip_congr (by simp) (by simp [config])
  rw [purge_eq he] at hskip
  rw [hskip] at hx
  simp only [movedE]
  rw [purge_eq he, hx]
  simp only [withdrawBlock, setSlot, hl, Option.map_none]

/-- What a pending RELEASE placed at most changes. -/
theorem tryRelease_parts (s : State) : tryRelease s = { s with port := { s.port with release := (tryRelease s).port.release } } := by
  unfold tryRelease
  split
  · split <;> rfl
  · rfl

/-- The evidence skip at most fills the SKIP slot. -/
theorem evidenceSkip_parts (s : State) : evidenceSkip s = { s with port := { s.port with skip := (evidenceSkip s).port.skip } } := by
  unfold evidenceSkip placeSkip
  split
  · split <;> rfl
  · rfl

/-- R145: the moved station, with the RELEASE it places at most and the SKIP it places at most. -/
theorem moveE_parts (s : State) :
    moveE s = { movedE s with port := { (movedE s).port with release := (moveE s).port.release, skip := (moveE s).port.skip } } := by
  have hr := tryRelease_parts (movedE s)
  have hs := evidenceSkip_parts (tryRelease (movedE s))
  rw [moveE_eq, hs, hr]

/-- The RELEASE slot after a move of E: the RELEASE of a head at the new E, with HOLD off. -/
theorem moveE_release_slot {s : State} {k : StationNo} {e : Seq} (hm : s.group.mode = .active) (hk : s.group.number = some k)
    (he : s.release.e = some e) (hl : s.port.onLine = none) :
    (moveE s).port.release = match s.holdQueue.entries.filter (inWindow e) with
      | h :: _ => if h.seq = e ∧ s.release.hold = false then some ⟨releaseBlock k s.release.broken h, 0⟩ else none
      | [] => none := by
  have hA := movedE_parts he hl
  rw [moveE_eq, evidenceSkip_port]
  show (tryRelease (movedE s)).port.release = _
  cases hq : s.holdQueue.entries.filter (inWindow e) with
  | nil =>
    rw [hA]
    simp only [tryRelease, hq, hk]
  | cons h t =>
    rw [tryRelease_eq (s := movedE s) (k := k) (e := e) (h := h) (t := t) (by rw [hA]; exact hm) (by rw [hA]; exact hk)
      (by rw [hA]; exact he) (by rw [hA]; exact hq)]
    have hline : ownOnLine (movedE s).port .release = false := by rw [hA]; simp [ownOnLine, hl]
    have hslot : (movedE s).port.release = none := by rw [hA]
    have hhold : (movedE s).release.hold = s.release.hold := by rw [hA]
    have hbroken : (movedE s).release.broken = s.release.broken := by rw [hA]
    simp only [hline, hslot, hhold, hbroken, and_true]
    by_cases hc : h.seq = e ∧ s.release.hold = false
    · rw [if_pos hc, if_pos hc]
      rfl
    · rw [if_neg hc, if_neg hc, hslot]

/-- Settles O25: from the fields the moved state has before its last two tests. -/
theorem moveOfEPurgesAndResets : Obligations.MoveOfEPurgesAndResets := by
  intro s k e hm hk he hl
  have hA := movedE_parts he hl
  have hM := moveE_parts s
  have hown : ownHorizon (tryRelease (movedE s)) = ownHorizon (moveE s) := by
    rw [moveE_eq]
    exact (ownHorizon_congr (by simp) (by simp) (by simp)).symm
  have hskips : Skips k e (tryRelease (movedE s)) ↔ Skips k e (moveE s) := by
    simp only [Skips, hown, moveE_eq, evidenceSkip_holdQueue, evidenceSkip_release, evidenceSkip_group]
  have hquiet : (tryRelease (movedE s)).port.skip = none := by
    rw [tryRelease_parts, hA]
  refine ⟨by rw [hM, hA]; rfl, by rw [hM, hA]; rfl, by rw [hM, hA], moveE_release_slot hm hk he hl, by rw [hM, hA]; rfl,
    fun h => ?_, fun h => ?_, by rw [hM, hA], by simp, by simp, by simp, by simp, by simp⟩
  · have hs : Skips k e (tryRelease (movedE s)) := hskips.2 ⟨by rw [hM, hA]; exact h.1, by rw [hM, hA]; exact h.2.1, h.2.2.1, by rw [moveE_group]; exact h.2.2.2⟩
    rw [moveE_eq, evidenceSkip_of_skips (by rw [tryRelease_group, hA]; exact hk) (by rw [tryRelease_release, hA]; exact he)
      (by rw [tryRelease_group, hA]; exact hm) hs]
    rfl
  · have hs : ¬Skips k e (tryRelease (movedE s)) := fun hs => h (by
      obtain ⟨hw, hh, ha, hp⟩ := hskips.1 hs
      rw [hM, hA] at hw hh
      exact ⟨hw, hh, ha, by rwa [moveE_group] at hp⟩)
    rw [moveE_eq, evidenceSkip_of_not_skips (by rw [tryRelease_group, hA]; exact hk) (by rw [tryRelease_release, hA]; exact he) hs,
      hquiet]

end Sys2Proof.Machine

namespace Sys2Proof.Machine

/-! ### The skip timer (R153, R154) -/

/-- The greatest of a start value and what a list gives. -/
theorem foldl_max_spec {α : Type} (f : α → Nat) (l : List α) (b : Nat) :
    b ≤ l.foldl (fun t u => max t (f u)) b ∧ (∀ u ∈ l, f u ≤ l.foldl (fun t u => max t (f u)) b) ∧
      (l.foldl (fun t u => max t (f u)) b = b ∨ ∃ u ∈ l, l.foldl (fun t u => max t (f u)) b = f u) := by
  induction l generalizing b with
  | nil => simp
  | cons a l ih =>
    obtain ⟨hb, hl, hor⟩ := ih (max b (f a))
    refine ⟨by simp only [List.foldl_cons]; omega, fun u hu => ?_, ?_⟩
    · obtain rfl | hu := List.mem_cons.1 hu
      · simp only [List.foldl_cons]; omega
      · exact hl u hu
    · simp only [List.foldl_cons]
      rcases hor with h | ⟨u, hu, h⟩
      · rcases Nat.le_total b (f a) with hle | hle
        · exact .inr ⟨a, by simp, by omega⟩
        · exact .inl (by omega)
      · exact .inr ⟨u, by simp [hu], h⟩

/-- Settles O26: the fold as a greatest value, and the expiry by the timer. -/
theorem skipTimerIsLoadedAndExpires : Obligations.SkipTimerIsLoadedAndExpires := by
  refine ⟨fun s => ?_, fun s k e ht hk he => ?_, fun s ht => ?_⟩
  · obtain ⟨hb, hl, hor⟩ := foldl_max_spec (fun u : LineUnit => u.farCeiling + Config.skipSlack) (servingLines s) (config s).skipTime
    refine ⟨hb, fun p hp => hl _ (mem_servingLines.2 ⟨p, hp, rfl⟩), hor.imp_right ?_⟩
    rintro ⟨u, hu, h⟩
    obtain ⟨p, hp, rfl⟩ := mem_servingLines.1 hu
    exact ⟨p, hp, h⟩
  · simp only [exec, execSkipTimerExpiry, ht]
    rw [placeSkip_eq (s := { s with release.skipTimer := .expired }) hk he]
    rfl
  · simp only [exec, execSkipTimerExpiry]

/-! ### An arrival at the hold queue (R131 to R133, R138) -/

theorem runawayUp_below {q : Seq} {s : State} (h : s.holdQueue.runaway < 15) :
    runawayUp q s = { s with holdQueue.runaway := s.holdQueue.runaway + 1 } := if_neg (by omega)

theorem runawayUp_full {q : Seq} {s : State} {k : StationNo} (hm : s.group.mode = .active) (hk : s.group.number = some k)
    (h : s.holdQueue.runaway = 15) :
    runawayUp q s = placeBlock .rebase ⟨seqValue q, stationAddress k, 0, []⟩ { s with holdQueue.runaway := 0 } := by
  simp [runawayUp, h, placeRebase, hk, isActive, hm]

/-- The entries the tail's removal leaves are those other than the tail. -/
theorem mem_dropLast_iff {e : Seq} {l : List HoldEntry} (h : OrderedFrom e l) {tail : HoldEntry} (ht : l.getLast? = some tail)
    (y : HoldEntry) : y ∈ l.dropLast ↔ y ∈ l ∧ y ≠ tail := by
  obtain ⟨-, hp⟩ := h
  obtain ⟨init, rfl⟩ := List.getLast?_eq_some_iff.1 ht
  rw [List.dropLast_concat]
  have hlast : ∀ z ∈ init, seqDist e z.seq < seqDist e tail.seq := fun z hz =>
    (List.pairwise_append.1 hp).2.2 z hz tail (by simp)
  constructor
  · exact fun hy => ⟨by simp [hy], fun h => absurd (hlast y hy) (by rw [h]; exact lt_irrefl _)⟩
  · rintro ⟨hy, hne⟩
    simpa [hne] using hy

section
variable {s : State} {e : Seq} {x : HoldEntry}

theorem classifyArrival_stale (h : 8192 ≤ seqDist e x.seq) :
    classifyArrival e x s = runawayUp x.seq (countStation (fun c => { c with stale := satInc c.stale }) s) := if_pos h

theorem classifyArrival_far (h : 1024 ≤ seqDist e x.seq) (h' : seqDist e x.seq < 8192) :
    classifyArrival e x s = runawayUp x.seq (countStation (fun c => { c with farAhead := satInc c.farAhead }) s) :=
  (if_neg (Nat.not_le.2 h')).trans (if_pos h)

theorem classifyArrival_near (h : seqDist e x.seq < 1024) :
    classifyArrival e x s =
      if s.holdQueue.entries.any (fun h => h.seq == x.seq) then
        countStation (fun c => { c with duplicates := satInc c.duplicates }) s
      else if s.holdQueue.entries.length < 96 then storeEntry e x s
      else storeAtFull e x s :=
  (if_neg (Nat.not_le.2 (h.trans (by decide)))).trans (if_neg (Nat.not_le.2 h))

theorem classifyArrival_new (h : seqDist e x.seq < 1024) (hnew : ∀ y ∈ s.holdQueue.entries, y.seq ≠ x.seq) :
    classifyArrival e x s = if s.holdQueue.entries.length < 96 then storeEntry e x s else storeAtFull e x s := by
  rw [classifyArrival_near h, if_neg]
  simpa using hnew

end

/-- Settles O27, by the class of the arrival. -/
theorem arrivalIsClassifiedAgainstE : Obligations.ArrivalIsClassifiedAgainstE := by
  intro s k e x hm hk hlaw he
  have horder : OrderedFrom e s.holdQueue.entries := by simpa [OrderedFromE, he] using hlaw.2.2
  refine ⟨fun hd => ?_, fun hd hd' => ?_, fun hd hr => ?_, fun hd hr => ?_, fun hd hdup => ?_, fun hd hnew hroom => ?_,
    fun tail hd hnew hfull ht hlt => ?_, fun tail hd hnew hfull ht hlt => ?_, by simp, by simp, by simp, by simp⟩
  · rw [classifyArrival_stale hd, runawayUp_holdQueue, runawayUp_status]
    exact ⟨rfl, rfl⟩
  · rw [classifyArrival_far hd hd', runawayUp_holdQueue, runawayUp_status]
    exact ⟨rfl, rfl⟩
  · rcases Nat.lt_or_ge (seqDist e x.seq) 8192 with hd' | hd'
    · rw [classifyArrival_far hd hd', runawayUp_below (s := countStation _ s) hr]
      exact ⟨rfl, rfl⟩
    · rw [classifyArrival_stale hd', runawayUp_below (s := countStation _ s) hr]
      exact ⟨rfl, rfl⟩
  · rcases Nat.lt_or_ge (seqDist e x.seq) 8192 with hd' | hd'
    · rw [classifyArrival_far hd hd', runawayUp_full (s := countStation _ s) hm hk hr]
      exact ⟨rfl, rfl⟩
    · rw [classifyArrival_stale hd', runawayUp_full (s := countStation _ s) hm hk hr]
      exact ⟨rfl, rfl⟩
  · rw [classifyArrival_near hd, if_pos (by simpa using hdup)]
    exact ⟨rfl, rfl⟩
  · rw [classifyArrival_new hd hnew, if_pos hroom]
    exact ⟨fun y => mem_insertEntry e x y _, rfl, rfl⟩
  · rw [classifyArrival_new hd hnew, if_neg (by omega)]
    simp only [storeAtFull, ht, if_pos hlt]
    exact ⟨fun y => (mem_insertEntry e x y _).trans (or_congr_right (mem_dropLast_iff horder ht y)), rfl, rfl⟩
  · rw [classifyArrival_new hd hnew, if_neg (by omega)]
    simp only [storeAtFull, ht, if_neg (Nat.not_lt.2 hlt.le)]
    exact ⟨rfl, rfl⟩

end Sys2Proof.Machine

namespace Sys2Proof.Machine

/-! ### Fields as bits (R1, R179) -/

@[simp] theorem length_bitsOf {w : Nat} (x : BitVec w) : (bitsOf x).length = w := by simp [bitsOf]

theorem bitsOf_append {v w : Nat} (x : BitVec v) (y : BitVec w) : bitsOf (x ++ y) = bitsOf x ++ bitsOf y := by
  refine List.ext_getElem (by simp) fun i h _ => ?_
  simp only [bitsOf, List.getElem_map, List.getElem_range, List.getElem_append, BitVec.getMsbD_append, List.length_map, List.length_range]
  split <;> simp_all

/-- The first `i` bits of a field spell its upper part. -/
theorem foldl_bits {w : Nat} (x : BitVec w) {i : Nat} (h : i ≤ w) :
    ((List.range i).map (fun j => x.getMsbD j)).foldl (fun n b => 2 * n + b.toNat) 0 = x.toNat / 2 ^ (w - i) := by
  induction i with
  | zero => simp [Nat.div_eq_of_lt x.isLt]
  | succ i ih =>
    have hbit : (x.getMsbD i).toNat = x.toNat / 2 ^ (w - (i + 1)) % 2 := by
      rw [BitVec.getMsbD_eq_getLsbD, decide_eq_true (by omega : i < w), Bool.true_and, BitVec.getLsbD, Nat.toNat_testBit]
      congr 3
      omega
    have hhalf : x.toNat / 2 ^ (w - i) = x.toNat / 2 ^ (w - (i + 1)) / 2 := by
      rw [Nat.div_div_eq_div_mul, ← Nat.pow_succ]
      congr 2
      omega
    rw [List.range_succ, List.map_append, List.foldl_append, ih (by omega), hhalf]
    simp only [List.map_cons, List.map_nil, List.foldl_cons, List.foldl_nil, hbit]
    omega

/-- A field is what its bits spell. -/
@[simp] theorem fieldOf_bitsOf {w : Nat} (x : BitVec w) : fieldOf w (bitsOf x) = x := by
  have := foldl_bits x (Nat.le_refl w)
  rw [fieldOf, bitsOf, this]
  simp

theorem bytesOfBits_bitsOfBytes (body : List Byte) : bytesOfBits (bitsOfBytes body) = some body := by
  induction body with
  | nil => rfl
  | cons b body ih =>
    have hb : bitsOf b = [b.getMsbD 0, b.getMsbD 1, b.getMsbD 2, b.getMsbD 3, b.getMsbD 4, b.getMsbD 5, b.getMsbD 6, b.getMsbD 7] := rfl
    have hsplit : bitsOfBytes (b :: body) = bitsOf b ++ bitsOfBytes body := rfl
    have hback := fieldOf_bitsOf b
    rw [hb] at hback hsplit
    rw [hsplit]
    simp only [List.cons_append, List.nil_append, bytesOfBits, ih, hback, Option.map_some]

/-! ### Stuffing (R2) -/

/-- R2: unstuffing takes out the stuff bits that stuffing put in. -/
theorem unstuffFrom_stuffFrom (bits : List Bool) (last : Bool) (run : Nat) :
    unstuffFrom last run (stuffFrom last run bits) = some bits := by
  induction bits generalizing last run with
  | nil => simp [stuffFrom, unstuffFrom]
  | cons b bs ih =>
    unfold stuffFrom
    split
    · next h => simp [unstuffFrom, h, ih]
    · next h =>
      unfold unstuffFrom
      rw [if_neg h, ih, Option.map_some]

theorem runWith_le {last b : Bool} {run : Nat} (h : run ≤ 4) (hne : runWith last run b ≠ 5) : runWith last run b ≤ 4 := by
  unfold runWith at hne ⊢
  by_cases hb : (b == last) = true
  · rw [if_pos hb] at hne ⊢
    omega
  · rw [if_neg hb]
    omega

/-- Six dominant bits in a row are a stuffing violation, whatever run they continue. -/
theorem unstuffFrom_zeros (last : Bool) {run : Nat} (h : run ≤ 4) (rest : List Bool) :
    unstuffFrom last run (List.replicate 6 false ++ rest) = none := by
  interval_cases run <;> cases last <;> simp [unstuffFrom, runWith, List.replicate]

/-- An abort mark holds a violation wherever it begins, and one more dominant bit may have been taken for a stuff bit. -/
theorem unstuffFrom_abort (levels rest : List Bool) (last : Bool) (run : Nat) (h : run ≤ 4) :
    unstuffFrom last run (levels ++ abortMark ++ rest) = none := by
  have hmark : ∀ n : Nat, 6 ≤ n → ∀ (last : Bool) (run : Nat), run ≤ 4 →
      unstuffFrom last run (List.replicate n false ++ rest) = none := by
    intro n hn last run h
    obtain ⟨m, rfl⟩ := Nat.exists_eq_add_of_le hn
    rw [List.replicate_add, List.append_assoc]
    exact unstuffFrom_zeros last h _
  induction hn : levels.length using Nat.strong_induction_on generalizing levels last run with
  | _ n ih =>
    cases levels with
    | nil => exact hmark 8 (by decide) last run h
    | cons b bs =>
      simp only [List.cons_append, List.append_assoc]
      unfold unstuffFrom
      split
      · cases bs with
        | nil =>
          show (if false = !b then _ else none) = none
          split
          · exact Option.map_eq_none_iff.2 (hmark 7 (by decide) false 1 (by decide))
          · rfl
        | cons x bs =>
          show (if x = !b then _ else none) = none
          split
          · refine Option.map_eq_none_iff.2 ?_
            have := ih bs.length (by simp at hn; omega) bs x 1 (by decide) rfl
            simpa using this
          · rfl
      · next hne =>
        refine Option.map_eq_none_iff.2 ?_
        have := ih bs.length (by simp at hn; omega) bs b _ (runWith_le h hne) rfl
        simpa using this

/-! ### A block on the line (R1, R6) -/

theorem coveredBits_eq (code : BitVec 3) (blk : BusBlock) :
    coveredBits code blk = bitsOf code ++ (bitsOf blk.value ++ (bitsOf blk.sender ++ (bitsOf blk.pair ++ bitsOfBytes blk.body))) := by
  simp only [coveredBits, arbField]
  rw [bitsOf_append, bitsOf_append, bitsOf_append]
  simp only [List.append_assoc]

theorem blockOfBits_coveredBits (code : BitVec 3) (blk : BusBlock) : blockOfBits (coveredBits code blk) = some (code, blk) := by
  have h3 := length_bitsOf code
  have h20 := length_bitsOf blk.value
  have hs := length_bitsOf blk.sender
  have hp := length_bitsOf blk.pair
  rw [blockOfBits, coveredBits_eq]
  simp [List.drop_append, h3, h20, hs, hp, List.drop_eq_nil_of_le, bytesOfBits_bitsOfBytes]

theorem length_coveredBits (code : BitVec 3) (blk : BusBlock) : 28 ≤ (coveredBits code blk).length := by
  simp only [coveredBits, List.length_append, length_bitsOf]
  omega

/-- R6, R179: covered bits closed by their CRC check as good. -/
theorem checkBlock_good (code : BitVec 3) (blk : BusBlock) :
    checkBlock (coveredBits code blk ++ bitsOf (crcOf (coveredBits code blk))) = .ok (code, blk) := by
  have hlen := length_coveredBits code blk
  have hsub : (coveredBits code blk ++ bitsOf (crcOf (coveredBits code blk))).length - 16 = (coveredBits code blk).length := by simp
  unfold checkBlock
  rw [if_neg (by simp only [List.length_append, length_bitsOf]; omega)]
  simp only [hsub, List.take_left, List.drop_left, if_true, blockOfBits_coveredBits]

/-- A start bit, a stuffed part and an end delimiter are received as the stuffed part's bits. -/
theorem receiveBlock_stuffed (bits : List Bool) : receiveBlock (false :: stuff bits ++ endDelimiter) = checkBlock bits := by
  have hend : endDelimiter.length = 7 := rfl
  have hback : unstuff (stuff bits) = some bits := unstuffFrom_stuffFrom bits false 0
  rw [List.cons_append]
  simp only [receiveBlock, List.length_append, hend, Nat.add_sub_cancel, List.drop_left, List.take_left, hback, if_true]

/-- Settles O14: unstuffing undoes stuffing, and the eight dominant bits of an abort mark hold six in a row. -/
theorem blockIsReceivedAsItWasSent : Obligations.BlockIsReceivedAsItWasSent :=
  ⟨fun code blk => (receiveBlock_stuffed _).trans (checkBlock_good code blk),
    fun levels rest => unstuffFrom_abort levels rest false 0 (by decide)⟩

/-! ### A frame on a pair (R182) -/

theorem append_bytes (x : BitVec 16) : BitVec.ofNat 8 (x.toNat / 256) ++ BitVec.ofNat 8 x.toNat = x := by
  refine BitVec.eq_of_toNat_eq ?_
  have := x.isLt
  rw [BitVec.toNat_append, ← Nat.shiftLeft_add_eq_or_of_lt (BitVec.isLt _), Nat.shiftLeft_eq]
  simp only [BitVec.toNat_ofNat]
  omega

theorem append_three_bytes (x : BitVec 24) :
    BitVec.ofNat 8 (x.toNat / 65536) ++ (BitVec.ofNat 8 (x.toNat / 256) ++ BitVec.ofNat 8 x.toNat) = x := by
  refine BitVec.eq_of_toNat_eq ?_
  have := x.isLt
  rw [BitVec.toNat_append, BitVec.toNat_append, ← Nat.shiftLeft_add_eq_or_of_lt (BitVec.isLt _), ← Nat.shiftLeft_add_eq_or_of_lt,
    Nat.shiftLeft_eq, Nat.shiftLeft_eq]
  · simp only [BitVec.toNat_ofNat]
    omega
  · rw [Nat.shiftLeft_eq]
    simp only [BitVec.toNat_ofNat]
    omega

theorem frameCovered_eq (kind : Byte) (f : Frame) :
    frameCovered kind f = kind :: f.flags :: f.lenLess1 :: BitVec.ofNat 8 (f.seq.toNat / 256) :: BitVec.ofNat 8 f.seq.toNat ::
      BitVec.ofNat 8 (f.count.toNat / 65536) :: BitVec.ofNat 8 (f.count.toNat / 256) :: BitVec.ofNat 8 f.count.toNat :: f.body := rfl

/-- Settles O15: header, body and CRC in turn. -/
theorem frameIsReceivedAsItWasSent : Obligations.FrameIsReceivedAsItWasSent := by
  intro kind f
  have hcrc : (crcBytes (crcOf (bitsOfBytes (frameCovered kind f)))).length = 2 := rfl
  have hlen : 8 ≤ (frameCovered kind f).length := by simp [frameCovered_eq]
  have hsub : (sendFrame kind f).length - 2 = (frameCovered kind f).length := by simp [sendFrame, hcrc]
  have htake : (sendFrame kind f).take ((sendFrame kind f).length - 2) = frameCovered kind f := by
    rw [hsub, sendFrame, List.take_left]
  have hdrop : (sendFrame kind f).drop ((sendFrame kind f).length - 2) = crcBytes (crcOf (bitsOfBytes (frameCovered kind f))) := by
    rw [hsub, sendFrame, List.drop_left]
  unfold receiveFrame
  dsimp only
  rw [htake, if_pos ⟨by omega, hdrop⟩, frameCovered_eq]
  exact congrArg some (Prod.ext rfl (by
    simp only [List.getD_cons_zero, List.getD_cons_succ, List.drop_succ_cons, List.drop_zero, append_bytes, append_three_bytes]))

end Sys2Proof.Machine

namespace Sys2Proof.Machine

/-! ### The test sequence bit by bit (R183) -/

/-- R183's register as a list of its stages, stage 1 first. -/
def stageList (r : Stages) : List Bool := (List.range 15).map (fun i => r.getLsbD i)

/-- One shift of the register as a list. -/
def shiftList (l : List Bool) : List Bool := (l.getD 14 false ^^ l.getD 13 false) :: l.take 14

/-- The register after `i` shifts from all ones. -/
def registerList (i : Nat) : List Bool := (List.range i).foldl (fun l _ => shiftList l) (List.replicate 15 true)

/-- Bit `i` of the stream. -/
def streamBit (i : Nat) : Bool := (registerList i).getD 14 false ^^ (registerList i).getD 13 false

theorem getLsbD_stagesNext (r : Stages) (i : Nat) (h : i < 14) : (stagesNext r).getLsbD (i + 1) = r.getLsbD i := by
  have hi : i + 1 < 15 := by omega
  cases hb : stagesOut r <;> simp [stagesNext, hb, hi, BitVec.getLsbD_eq_getElem (show i < 15 by omega)]

theorem getLsbD_stagesNext_zero (r : Stages) : (stagesNext r).getLsbD 0 = stagesOut r := by
  cases hb : stagesOut r <;> simp [stagesNext, hb]

theorem stageList_stagesNext (r : Stages) : stageList (stagesNext r) = shiftList (stageList r) := by
  have h := getLsbD_stagesNext r
  have h0 := getLsbD_stagesNext_zero r
  simp only [stageList, shiftList, List.range, List.range.loop, List.map_cons, List.map_nil, List.getD_cons_succ, List.getD_cons_zero,
    List.take_succ_cons, List.take_zero, h0, h 0 (by decide), h 1 (by decide), h 2 (by decide), h 3 (by decide), h 4 (by decide),
    h 5 (by decide), h 6 (by decide), h 7 (by decide), h 8 (by decide), h 9 (by decide), h 10 (by decide), h 11 (by decide),
    h 12 (by decide), h 13 (by decide), stagesOut]

theorem registerList_eq (i : Nat) : registerList i = stageList (stagesAfter i stagesStart) := by
  induction i with
  | zero => decide
  | succ i ih =>
    have hs : stagesAfter (i + 1) stagesStart = stagesNext (stagesAfter i stagesStart) := stagesAfter_add i 1 stagesStart
    rw [hs, stageList_stagesNext, ← ih, registerList, List.range_succ, List.foldl_append]
    rfl

theorem streamBit_eq (i : Nat) : streamBit i = stagesOut (stagesAfter i stagesStart) := by
  rw [streamBit, registerList_eq]
  rfl

/-- The bits taken into a byte, the first above the others. -/
theorem takeByte_spec (n : Nat) (acc : Byte) (r : Stages) :
    (takeByte n acc r).2 = stagesAfter n r ∧ ∀ i < 8, (takeByte n acc r).1.getLsbD i =
      if i < n then stagesOut (stagesAfter (n - 1 - i) r) else acc.getLsbD (i - n) := by
  induction n generalizing acc r with
  | zero => simp [takeByte, stagesAfter]
  | succ n ih =>
    obtain ⟨h2, h1⟩ := ih ((acc <<< 1) ||| (if stagesOut r then 1 else 0)) (stagesNext r)
    refine ⟨h2, fun i hi => (h1 i hi).trans ?_⟩
    rcases Nat.lt_trichotomy i n with hin | rfl | hin
    · rw [if_pos hin, if_pos (by omega), show n + 1 - 1 - i = (n - 1 - i) + 1 by omega]
      rfl
    · rw [if_neg (lt_irrefl _), if_pos (Nat.lt_succ_self _), Nat.sub_self, show i + 1 - 1 - i = 0 by omega]
      cases hb : stagesOut r <;> simp [stagesAfter, hb]
    · rw [if_neg (by omega : ¬i < n), if_neg (by omega : ¬i < n + 1), show i - n = (i - (n + 1)) + 1 by omega]
      have hlt : i - (n + 1) + 1 < 8 := by omega
      cases hb : stagesOut r <;> simp [hlt, BitVec.getLsbD_eq_getElem (show i - (n + 1) < 8 by omega)]

/-- Bit `j` of byte `k` of the stream from register `r`. -/
theorem streamBytes_bit (n : Nat) (r : Stages) (k j : Nat) (hk : k < n) (hj : j < 8) :
    ((streamBytes n r).getD k 0).getMsbD j = stagesOut (stagesAfter (8 * k + j) r) := by
  induction n generalizing r k with
  | zero => omega
  | succ n ih =>
    obtain ⟨h2, h1⟩ := takeByte_spec 8 0 r
    unfold streamBytes
    split
    next b r' hb =>
      rw [hb] at h1 h2
      cases k with
      | zero =>
        rw [List.getD_cons_zero, BitVec.getMsbD_eq_getLsbD, decide_eq_true hj, Bool.true_and, h1 _ (by omega), if_pos (by omega)]
        congr 2
        omega
      | succ k =>
        rw [List.getD_cons_succ, ih r' k (by omega), show 8 * (k + 1) + j = 8 + (8 * k + j) by omega, stagesAfter_add 8, ← h2]

theorem stagesAfter_mod (n : Nat) : stagesAfter (n % streamPeriod) stagesStart = stagesAfter n stagesStart := by
  have hwhole : ∀ m, stagesAfter (streamPeriod * m) stagesStart = stagesStart := by
    intro m
    induction m with
    | zero => rfl
    | succ m ih => rw [Nat.mul_succ, Nat.add_comm, stagesAfter_add, stagesAfter_period, ih]
  conv_rhs => rw [← Nat.div_add_mod n streamPeriod, stagesAfter_add, hwhole]

theorem testBytes_bit (i n k j : Nat) (hk : k < n) (hj : j < 8) :
    ((testBytes i n).getD k 0).getMsbD j = streamBit (8 * (i + k) + j) := by
  rw [testBytes, stagesAfter_mod, streamBytes_bit _ _ _ _ hk hj, streamBit_eq, ← stagesAfter_add]
  congr 2
  omega

theorem probeFill_bit (k j : Nat) (hk : k < 51) (hj : j < 8) : (probeFill.getD k 0).getMsbD j = streamBit (8 * k + j) := by
  rw [probeFill, testBytes_bit 0 51 k j hk hj, Nat.zero_add]

/-! ### The frames of the transmitter (R182) -/

/-- R71, R73, R182: a frame of the transmitter is of its kind and its kind's command, and carries its header. -/
def Sends (n : BitVec 24) (q : Nat) (p : Pair) (m : BitVec 6) (code : Byte) (kind : FrameKind) (size flags seq : Nat)
    (c : TxContent) (command : Frame → Instr) : Prop :=
  let f := frameOfTx ⟨c, n, q⟩
  frameSizeOk kind f = true ∧ frameCommand p m code f = command f ∧ f.count = n ∧ f.flags.toNat = flags ∧
    f.seq.toNat = seq ∧ txBytes ⟨c, n, q⟩ = sendFrame code f ∧ (txBytes ⟨c, n, q⟩).length = size ∧
    txDuration ⟨c, n, q⟩ = ((size * 250 : Nat) : Rat) / ((q : Nat) : Rat)

theorem length_sendFrame (code : Byte) (f : Frame) : (sendFrame code f).length = f.body.length + 10 := by
  simp [sendFrame, frameCovered_eq, crcBytes, byte2]

section
variable {n : BitVec 24} {q : Nat} {p : Pair} {m : BitVec 6} {code : Byte} {size flags seq : Nat} {c : TxContent} {command : Frame → Instr}

/-- The size and the duration follow from the body; what is left are the kind's checks and the header's fields. -/
theorem sends_of (hsize : frameSizeOk (contentKind c) (frameOfTx ⟨c, n, q⟩) = true) (hcode : frameCode (contentKind c) = code)
    (hlen : (contentBody c).length + 10 = size)
    (hcmd : frameCommand p m code (frameOfTx ⟨c, n, q⟩) = command (frameOfTx ⟨c, n, q⟩))
    (hflags : (contentFlags c).toNat = flags) (hseq : (contentSeq c).toNat = seq) :
    Sends n q p m code (contentKind c) size flags seq c command := by
  have hbytes : txBytes ⟨c, n, q⟩ = sendFrame code (frameOfTx ⟨c, n, q⟩) := by rw [← hcode]; rfl
  have htotal : (txBytes ⟨c, n, q⟩).length = size := by
    rw [hbytes, length_sendFrame]
    exact hlen
  refine ⟨hsize, hcmd, rfl, hflags, hseq, hbytes, htotal, ?_⟩
  rw [txDuration, htotal]
  rfl

/-- A body of its kind's size passes the check of the length field and the body. -/
theorem frameSizeOk_of_length {b : Nat} (hb : frameBody (contentKind c) = some b) (hl : (contentBody c).length = b) (h1 : 1 ≤ b)
    (h2 : b ≤ 256) : frameSizeOk (contentKind c) (frameOfTx ⟨c, n, q⟩) = true := by
  simp only [frameSizeOk, hb, frameLength, frameOfTx, hl, BitVec.toNat_ofNat]
  simp
  omega

end

theorem rateField_id {r : Nat} (h1 : 1 ≤ r) (h2 : r ≤ 256) : rateField r = r := by
  rw [rateField, if_neg (by omega)]
  omega

theorem bodyTriple_byte3 (n : Nat) (h : n < 2 ^ 24) : bodyTriple (byte3 n) 0 = n := by
  simp only [bodyTriple, bodyWord, bodyByte, byte3, byte2, List.getD_cons_zero, List.getD_cons_succ, BitVec.toNat_ofNat]
  omega

theorem flagsByte_bits (a b c d : Bool) :
    (flagsByte a b c d).getLsbD 7 = a ∧ (flagsByte a b c d).getLsbD 6 = b ∧ (flagsByte a b c d).getLsbD 5 = c ∧
      (flagsByte a b c d).getLsbD 4 = d := by
  cases a <;> cases b <;> cases c <;> cases d <;> decide

section
variable {n : BitVec 24} {q : Nat} {p : Pair} {m : BitVec 6}

/-- A kind whose body is two bytes and whose flags are 0: only the command is left to see. -/
theorem sends_short {code : Byte} {seq : Nat} {c : TxContent} {command : Frame → Instr} (hcode : frameCode (contentKind c) = code)
    (hb : frameBody (contentKind c) = some 2) (hl : (contentBody c).length = 2) (hf : contentFlags c = 0)
    (hseq : (contentSeq c).toNat = seq)
    (hcmd : frameCommand p m code (frameOfTx ⟨c, n, q⟩) = command (frameOfTx ⟨c, n, q⟩)) :
    Sends n q p m code (contentKind c) 12 0 seq c command :=
  sends_of (frameSizeOk_of_length hb hl (by decide) (by decide)) hcode (by rw [hl]) hcmd (by rw [hf]; rfl) hseq

theorem sends_frag (x : Fragment) (h1 : 16 ≤ x.length) (h2 : x.length ≤ 256) (hp : x.payload.length = x.length) :
    Sends n q p m 0x01 .frag (x.length + 10) ((if x.startMark then 128 else 0) + (if x.endMark then 64 else 0)) x.seq.toNat (.frag x)
      (.frag p) := by
  have hlen : frameLength (frameOfTx ⟨.frag x, n, q⟩) = x.length := by
    simp only [frameLength, frameOfTx, contentBody, hp, BitVec.toNat_ofNat]
    omega
  have hs := x.seq.isLt
  refine sends_of (c := .frag x) ?_ rfl (by rw [← hp]; rfl) rfl ?_ ?_
  · show (decide (16 ≤ frameLength _) && x.payload.length == frameLength _) = true
    rw [hlen, hp]
    simpa using h1
  · simp only [contentFlags, flagsByte]
    cases x.startMark <;> cases x.endMark <;> rfl
  · simp only [contentSeq, BitVec.toNat_setWidth]
    omega

theorem frameSeq_frag (x : Fragment) : frameSeq (frameOfTx ⟨.frag x, n, q⟩) = x.seq := by
  refine BitVec.eq_of_toNat_eq ?_
  have hs := x.seq.isLt
  simp only [frameSeq, frameOfTx, contentSeq, BitVec.toNat_setWidth]
  omega

theorem sends_params (r : Role) (lo hi c : Nat) (held : Bool) :
    Sends n q p m 0x11 .params 18 (if held then 16 else 0) 0 (.params r lo hi c held) (.params p) :=
  sends_of (c := .params r lo hi c held) (frameSizeOk_of_length rfl rfl (by decide) (by decide)) rfl rfl rfl
    (by cases held <;> rfl) rfl

theorem paramsOf_params (r : Role) (lo hi c : Nat) (held : Bool) (h1 : 1 ≤ lo) (h2 : lo ≤ hi) (h3 : hi ≤ 256) (h4 : c < 2 ^ 24) :
    paramsOf (frameOfTx ⟨.params r lo hi c held, n, q⟩) = ⟨roleByte r, lo, hi, c⟩ := by
  have hlo : bodyWord (byte2 lo ++ (byte2 hi ++ byte3 c)) 0 = lo := (bodyWord_byte2 _ _).trans (by omega)
  have hhi : bodyWord (byte2 hi ++ byte3 c) 0 = hi := (bodyWord_byte2 _ _).trans (by omega)
  have hc := bodyTriple_byte3 c h4
  show FarParams.mk _ (rateField (bodyWord (byte2 lo ++ (byte2 hi ++ byte3 c)) 0)) (rateField (bodyWord (byte2 hi ++ byte3 c) 0))
    (bodyTriple (byte3 c) 0) = _
  rw [hlo, hhi, hc, rateField_id h1 (by omega), rateField_id (by omega) h3]
  rfl

theorem frameCommand_probe {f : Frame} (h : f.flags = 0) : frameCommand p m 0x12 f = .probe p f := by
  have hc : frameClosing f = false := by rw [frameClosing, h]; decide
  show (if frameClosing f then _ else _) = _
  rw [hc]
  rfl

theorem frameCommand_closingProbe {f : Frame} (h : f.flags = 32) : frameCommand p m 0x12 f = .closingProbe p f := by
  have hc : frameClosing f = true := by rw [frameClosing, h]; decide
  show (if frameClosing f then _ else _) = _
  rw [hc]
  rfl

theorem frameCommand_verdict {f : Frame} (h : f.flags = 0) : frameCommand p m 0x13 f = .verdict p f := by
  have hc : frameClosing f = false := by rw [frameClosing, h]; decide
  show (if frameClosing f then _ else _) = _
  rw [hc]
  rfl

theorem frameCommand_closingVerdict {f : Frame} (h : f.flags = 32) : frameCommand p m 0x13 f = .closingVerdict p f := by
  have hc : frameClosing f = true := by rw [frameClosing, h]; decide
  show (if frameClosing f then _ else _) = _
  rw [hc]
  rfl

theorem sends_probe (burst rate index : Nat) (h : index ≤ 63) :
    Sends n q p m 0x12 .probe 64 0 index (.probe burst rate index) (.probe p) := by
  have hl : (contentBody (.probe burst rate index)).length = 54 := by simp [contentBody, byte1, byte2]
  refine sends_of (c := .probe burst rate index) (frameSizeOk_of_length rfl hl (by decide) (by decide)) rfl (by rw [hl])
    (frameCommand_probe rfl) rfl ?_
  simp only [contentSeq, BitVec.toNat_ofNat]
  omega

theorem sends_closingProbe (rate : Nat) : Sends n q p m 0x12 .probe 64 32 0 (.closingProbe rate) (.closingProbe p) := by
  have hl : (contentBody (.closingProbe rate)).length = 54 := by simp [contentBody, byte1, byte2]
  exact sends_of (c := .closingProbe rate) (frameSizeOk_of_length rfl hl (by decide) (by decide)) rfl (by rw [hl])
    (frameCommand_closingProbe rfl) rfl rfl

theorem rateField_word {rate : Nat} (h1 : 1 ≤ rate) (h2 : rate ≤ 256) (rest : List Byte) :
    rateField (bodyWord (byte2 rate ++ rest) 0) = rate := by
  rw [bodyWord_byte2, Nat.mod_eq_of_lt (by omega), rateField_id h1 h2]

theorem bodyByte_byte1 {b : Nat} (h : b ≤ 64) (rest : List Byte) : bodyByte (byte1 b ++ rest) 0 = b := by
  simp only [bodyByte, byte1, List.cons_append, List.getD_cons_zero, BitVec.toNat_ofNat]
  omega

theorem verdictClean_verdict (burst good : Nat) (clean : Bool) : verdictClean (frameOfTx ⟨.verdict burst good clean, n, q⟩) = clean := by
  cases clean <;> rfl

theorem sends_test (x : Seq) : Sends n q p m 0x20 .test 128 0 x.toNat (.test x) (fun f => .test p f m) := by
  have hl : (contentBody (.test x)).length = 118 := testBody_length x
  have hx := x.isLt
  refine sends_of (c := .test x) (frameSizeOk_of_length rfl hl (by decide) (by decide)) rfl (by rw [hl]) rfl rfl ?_
  simp only [contentSeq, BitVec.toNat_setWidth]
  omega

theorem frameSeq_test (x : Seq) : frameSeq (frameOfTx ⟨.test x, n, q⟩) = x := by
  refine BitVec.eq_of_toNat_eq ?_
  have hs := x.isLt
  simp only [frameSeq, frameOfTx, contentSeq, BitVec.toNat_setWidth]
  omega

end

/-- Settles O16, kind by kind. -/
theorem transmittedFieldsReadBack : Obligations.TransmittedFieldsReadBack := by
  intro n q p m
  refine ⟨fun x h1 h2 hp => ?_, ⟨sends_short (c := .idle) rfl rfl rfl rfl rfl rfl, rfl⟩,
    fun r => ⟨sends_short (c := .wake r) rfl rfl rfl rfl rfl rfl, by cases r <;> rfl⟩, fun r lo hi c held h1 h2 h3 h4 => ?_,
    fun burst rate index hb h1 h2 hi => ?_, fun rate h1 h2 => ?_, fun burst good clean hb hg => ?_, fun rate h1 h2 => ?_,
    ⟨sends_short (c := .echoAsk) rfl rfl rfl rfl rfl rfl, rfl⟩, fun x => ?_, fun x => ?_,
    ⟨sends_short (c := .qualified) rfl rfl rfl rfl rfl rfl, rfl⟩, fun rate h1 h2 => ?_, fun r hr => ?_,
    ⟨sends_short (c := .leave) rfl rfl rfl rfl rfl rfl, rfl⟩⟩
  · obtain ⟨hstart, hend, -, -⟩ := flagsByte_bits x.startMark x.endMark false false
    refine ⟨sends_frag x h1 h2 hp, frameSeq_frag x, ?_, hstart, hend, rfl⟩
    simp only [frameLength, frameOfTx, contentBody, hp, BitVec.toNat_ofNat]
    omega
  · obtain ⟨-, -, -, hheld⟩ := flagsByte_bits false false false held
    refine ⟨sends_params r lo hi c held, hheld, (paramsOf_params r lo hi c held h1 h2 h3 h4).trans ?_⟩
    cases r <;> rfl
  · refine ⟨sends_probe burst rate index hi, bodyByte_byte1 (by omega) (byte2 rate ++ probeFill), rateField_word h1 h2 probeFill, ?_,
      fun k j hk hj => by rw [Nat.add_comm 3 k]; exact probeFill_bit k j hk hj⟩
    simp only [frameSeq, frameOfTx, contentSeq, BitVec.toNat_setWidth, BitVec.toNat_ofNat]
    omega
  · exact ⟨sends_closingProbe rate, rfl, rateField_word h1 h2 probeFill, fun k j hk hj => by rw [Nat.add_comm 3 k]; exact probeFill_bit k j hk hj⟩
  · refine ⟨sends_short (c := .verdict burst good clean) rfl rfl rfl rfl ?_ (frameCommand_verdict rfl), ?_, bodyByte_byte1 hg _, by cases clean <;> rfl,
      verdictClean_verdict burst good clean⟩
    · simp only [contentSeq, BitVec.toNat_ofNat]
      omega
    · simp only [frameSeq, frameOfTx, contentSeq, BitVec.toNat_setWidth, BitVec.toNat_ofNat]
      omega
  · refine ⟨sends_of (c := .closingVerdict rate) rfl rfl rfl (frameCommand_closingVerdict rfl) rfl ?_, rfl⟩
    simp only [contentSeq, BitVec.toNat_ofNat]
    omega
  · refine ⟨sends_short (c := .echo x) rfl rfl rfl rfl rfl rfl, ?_⟩
    have h := bodyWord_byte2 x.toNat []
    rwa [List.append_nil, Nat.mod_eq_of_lt x.isLt] at h
  · exact ⟨sends_test x, frameSeq_test x, fun k j hk hj => testBytes_bit _ _ _ _ hk hj⟩
  · have h := rateField_word h1 h2 []
    rw [List.append_nil] at h
    exact ⟨sends_short (c := .rateAsk rate) rfl rfl rfl rfl rfl rfl, h, sends_short (c := .rateSwitch rate) rfl rfl rfl rfl rfl rfl, h⟩
  · cases r with
    | farRequest => exact absurd rfl hr
    | errors => exact ⟨sends_short (c := .windDown .errors) rfl rfl rfl rfl rfl rfl, rfl⟩
    | margin => exact ⟨sends_short (c := .windDown .margin) rfl rfl rfl rfl rfl rfl, rfl⟩
    | reRateTimeout => exact ⟨sends_short (c := .windDown .reRateTimeout) rfl rfl rfl rfl rfl rfl, rfl⟩

end Sys2Proof.Machine

namespace Sys2Proof.Machine

/-! ### The start record read (R18 to R22, R83) -/

/-- R19, R22, R83: the stored record begins LISTENING, the pairs it disables OFF. -/
theorem storeRecord_listens (r : StartRecord) (flag : Bool) (s : State) :
    let t := storeRecord r flag s
    t.group =
        { s.group with
          mode := .listening
          record := some r
          defaultsInUse := flag
          readTimer := .stopped
          join := ⟨.all false, none⟩
          listening := .running (if s.group.number.isSome then 8000 else 16000) } ∧
      (∀ p, quadGet r.enabled p = true → line t p = line s p) ∧
      (∀ p, quadGet r.enabled p = false → (line t p).state = .off ∧ (line t p).tx = none) ∧
      t = { s with group := t.group, lines := t.lines } := by
  refine ⟨rfl, fun p hp => ?_, fun p hp => ?_, rfl⟩
  · rw [line_storeRecord, if_pos hp]
  · rw [line_storeRecord, if_neg (by simp [hp])]
    exact ⟨rfl, rfl⟩

/-- Settles O29: the commands of WAITING and READING by mode, timer and checksum. -/
theorem recordReadBeginsListening : Obligations.RecordReadBeginsListening := by
  intro record sum s
  refine ⟨fun h => ?_, fun h => ?_, fun h hs => ⟨_, ?_, storeRecord_listens _ _ s⟩, fun h hs => ⟨_, ?_, storeRecord_listens _ _ s⟩,
    fun h => ⟨_, ?_, storeRecord_listens _ _ s⟩, fun h => ⟨?_, ?_⟩⟩
  · simp only [exec, execChainInAsserted, if_pos h]
    rfl
  · simp only [exec, execChainInAsserted, if_neg h]
  · have hg : recordGood record sum = true := beq_iff_eq.2 hs
    simp only [exec, execStartRecordRead, if_pos h, if_pos hg]
  · have hg : ¬recordGood record sum = true := fun h => hs (beq_iff_eq.1 h)
    simp only [exec, execStartRecordRead, if_pos h, if_neg hg]
  · simp only [exec, execStartMemoryTimeout, if_pos h]
  · simp only [exec, execStartRecordRead, if_neg h]
  · simp only [exec, execStartMemoryTimeout, if_neg h]

/-! ### The bus reset (R15, R35) -/

theorem busResetLine_enabled {b : Bool} (h : b = true) : busResetLine b = LineUnit.reset := by rw [h]; rfl

theorem busResetLine_disabled {b : Bool} (h : b = false) :
    busResetLine b = { LineUnit.reset with state := .off, holdOff := .stopped } := by rw [h]; rfl

/-- R15, R35: the release of a line that a bus reset holds dominant. -/
theorem busRelease_dominant {s : State} (h : s.port.dominant = true) :
    ∃ t, exec .busRelease s = .next t ∧ t.port = { s.port with dominant := false } ∧
      (s.group.listening = .held →
        t.group = { s.group with listening := .running (if s.group.number.isSome then 8000 else 16000) }) ∧
      (s.group.listening ≠ .held → t.group = s.group) ∧ t = { s with port := t.port, group := t.group } := by
  refine ⟨_, by simp only [exec, execBusRelease, if_pos h]; rfl, rfl, fun hl => ?_, fun hl => ?_, rfl⟩
  · simp only [hl]
    rfl
  · simp only

/-- Settles O30: the bus reset from every state, and the release of the bus by mode. -/
theorem busResetReturnsToHeldListening : Obligations.BusResetReturnsToHeldListening := by
  refine ⟨fun s => ⟨_, rfl, fun k => by cases k <;> rfl, rfl, rfl, rfl, rfl, rfl, rfl, rfl, rfl, rfl, rfl, rfl, fun p hp => ?_,
    fun p hp => ?_, fun h => ?_, fun hw hr => ?_⟩, fun s others h => ⟨?_, busRelease_dominant h⟩, fun s h => ?_⟩
  · exact (quadGet_quadOf _ p).trans (busResetLine_enabled hp)
  · exact (quadGet_quadOf _ p).trans (busResetLine_disabled hp)
  · show busResetGroup s.group = s.group
    rcases h with h | h <;> simp only [busResetGroup, h]
  · show busResetGroup s.group = _
    unfold busResetGroup
    split
    · next h => exact absurd h hw
    · next h => exact absurd h hr
    · rfl
  · simp [exec, execBusIdleContend, lineTaken, h]
  · simp [exec, execBusRelease, h]

/-! ### The end of the listening period (R23, R24) -/

/-- R23: the lowest number that was not heard. -/
theorem lowestFree_eq {heard : PerStation Bool} {k : StationNo} (hk : stationGet heard k = false)
    (hlow : ∀ j, stationIndex j < stationIndex k → stationGet heard j = true) : lowestFree heard = some k := by
  have h0 := hlow .n0
  have h1 := hlow .n1
  have h2 := hlow .n2
  have h3 := hlow .n3
  have h4 := hlow .n4
  cases k <;> simp_all [lowestFree, allStations, stationIndex]

theorem lowestFree_none {heard : PerStation Bool} (h : ∀ k, stationGet heard k = true) : lowestFree heard = none := by
  simp [lowestFree, h]

/-- A purge of an empty hold queue. -/
theorem purge_empty {s : State} (h : s.holdQueue.entries = []) : (purge s).holdQueue = s.holdQueue := by
  unfold purge
  split
  · rfl
  · simp only [countStation_holdQueue, h, List.filter_nil]
    rw [← h]

theorem exec_listeningPeriodEnd_due {s : State} (hm : s.group.mode = .listening) (hl : s.group.listening = .running 0) :
    exec .listeningPeriodEnd s = .next (match s.group.number with
      | some k => enterActive k s
      | none => match lowestFree s.group.join.heard with
        | some k => enterActive k s
        | none => enterSpare s) := by
  simp only [exec, execListeningPeriodEnd, hm, hl] <;> rfl

/-- Settles O31: by the number that is free. -/
theorem listeningEndMakesActiveOrSpare : Obligations.ListeningEndMakesActiveOrSpare := by
  intro s n hm
  refine ⟨fun hl => by simp only [exec, execListeningPeriodEnd, hm, hl], fun hl hq => ⟨fun k hk => ?_, fun hn hall => ?_⟩⟩
  · refine ⟨enterActive k s, ?_, purge_group _, fun v hv => ?_, fun hv => ?_, ?_, ?_, fun p hp => ?_, fun p hp => ?_, purge_port _,
      purge_empty hq, purge_timeBase _, purge_pending _⟩
    · rw [exec_listeningPeriodEnd_due hm hl]
      rcases hk with hk | ⟨hn, hfree, hlow⟩
      · rw [hk]
      · rw [hn, lowestFree_eq hfree hlow]
    · simp [enterActive, hv]
    · simp [enterActive, hv]
    · simp [enterActive]
    · simp [enterActive]
    · rw [line_enterActive]
      simp only [startHoldOff, hp, Config.ms]
    · rw [line_enterActive]
      unfold startHoldOff
      split
      · next h => exact absurd h hp
      · rfl
  · refine ⟨enterSpare s, ?_, rfl, hn, rfl, fun p => ?_, rfl, rfl, rfl, rfl⟩
    · rw [exec_listeningPeriodEnd_due hm hl, hn, lowestFree_none hall]
    · rw [show line (enterSpare s) p = lineOff (line s p) from quadGet_quadOf _ p]
      exact ⟨rfl, rfl⟩

end Sys2Proof.Machine

namespace Sys2Proof.Machine

/-! ### Events handed over one after another (R176) -/

theorem recordEvent_status_congr (k : EventKind) (a b : Nat) {s t : State} (hs : s.status = t.status) (hb : s.timeBase = t.timeBase) :
    (recordEvent k a b s).status = (recordEvent k a b t).status := by
  simp only [recordEvent, hs, hb]
  split <;> rfl

theorem foldl_events_congr {α : Type} (k : EventKind) (f : α → Nat) (l : List α) {s t : State} (hs : s.status = t.status)
    (hb : s.timeBase = t.timeBase) :
    (l.foldl (fun v j => recordEvent k (f j) 0 v) s).status = (l.foldl (fun v j => recordEvent k (f j) 0 v) t).status := by
  induction l generalizing s t with
  | nil => exact hs
  | cons a l ih => exact ih (recordEvent_status_congr _ _ _ hs hb) (by simp [hb])

/-! ### The presence update (R29, R30) -/

/-- R30: a peer that the presence update makes ABSENT. -/
def goesAbsent (s : State) (j : StationNo) : Bool :=
  decide (s.group.number ≠ some j) && (stationGet s.group.table j).present && !(intervalEntry (stationGet s.group.table j)).present

/-- R29: what the presence update of the peers in `l` comes to. -/
structure PresenceUpdated (l : List StationNo) (s t : State) : Prop where
  updated : ∀ j ∈ l, s.group.number ≠ some j → stationGet t.group.table j = intervalEntry (stationGet s.group.table j)
  kept : ∀ j, j ∉ l ∨ s.group.number = some j → stationGet t.group.table j = stationGet s.group.table j
  frame : t = { s with group := { s.group with table := t.group.table }, status := t.status }
  status : t.status = ((l.filter (goesAbsent s)).foldl (fun v j => recordEvent .peerAbsent (stationIndex j) 0 v) s).status

theorem intervalPeer_parts (s : State) (k : StationNo) (hk : s.group.number ≠ some k) :
    (intervalPeer s k).group = { s.group with table := stationSet s.group.table k (intervalEntry (stationGet s.group.table k)) } ∧
      intervalPeer s k = { s with group := (intervalPeer s k).group, status := (intervalPeer s k).status } ∧
      (intervalPeer s k).status = (if goesAbsent s k then recordEvent .peerAbsent (stationIndex k) 0 s else s).status := by
  have hgone : goesAbsent s k = ((stationGet s.group.table k).present && !(intervalEntry (stationGet s.group.table k)).present) := by
    simp [goesAbsent, hk]
  rw [hgone]
  simp only [intervalPeer, if_neg hk]
  split
  · refine ⟨by simp, ?_, recordEvent_status_congr _ _ _ rfl rfl⟩
    rw [recordEvent_eq]
  · exact ⟨rfl, rfl, rfl⟩

theorem presenceUpdated_foldl (l : List StationNo) (hl : l.Nodup) (s : State) : PresenceUpdated l s (l.foldl intervalPeer s) := by
  induction l generalizing s with
  | nil => exact ⟨by simp, fun _ _ => rfl, rfl, rfl⟩
  | cons a l ih =>
    obtain ⟨hal, hl⟩ := List.nodup_cons.1 hl
    have next := ih hl (intervalPeer s a)
    simp only [List.foldl_cons]
    by_cases ha : s.group.number = some a
    · have hsame : intervalPeer s a = s := by simp [intervalPeer, ha]
      rw [hsame] at next ⊢
      refine ⟨fun j hj hn => ?_, fun j hj => next.kept j (hj.imp_left fun h hm => h (List.mem_cons_of_mem _ hm)), next.frame, ?_⟩
      · obtain rfl | hj := List.mem_cons.1 hj
        · exact absurd ha hn
        · exact next.updated j hj hn
      · rw [List.filter_cons_of_neg (by simp [goesAbsent, ha])]
        exact next.status
    · obtain ⟨hg, hframe, hst⟩ := intervalPeer_parts s a ha
      have hnum : (intervalPeer s a).group.number = s.group.number := by rw [hg]
      have hself : stationGet (intervalPeer s a).group.table a = intervalEntry (stationGet s.group.table a) := by rw [hg]; simp
      have hother : ∀ j, j ≠ a → stationGet (intervalPeer s a).group.table j = stationGet s.group.table j := by
        intro j hj
        rw [hg]
        exact stationGet_stationSet_other _ _ hj
      refine ⟨fun j hj hn => ?_, fun j hj => ?_, ?_, ?_⟩
      · obtain rfl | hj := List.mem_cons.1 hj
        · rw [next.kept j (.inl hal), hself]
        · rw [next.updated j hj (by rwa [hnum]), hother j fun h => hal (h ▸ hj)]
      · have hja : j ≠ a := by
          rintro rfl
          rcases hj with hj | hj
          · exact hj List.mem_cons_self
          · exact ha hj
        rw [next.kept j (hj.imp (fun h hm => h (List.mem_cons_of_mem _ hm)) (by rw [hnum]; exact id)), hother j hja]
      · refine next.frame.trans ?_
        rw [hframe]
        simp only [hg]
      · rw [next.status]
        have hfilter : l.filter (goesAbsent (intervalPeer s a)) = l.filter (goesAbsent s) :=
          List.filter_congr fun j hj => by
            simp only [goesAbsent, hnum, hother j fun h => hal (h ▸ hj)]
        have htime : (intervalPeer s a).timeBase = s.timeBase := by rw [hframe]
        rw [hfilter]
        cases hgone : goesAbsent s a with
        | true =>
          rw [List.filter_cons_of_pos hgone]
          exact foldl_events_congr _ _ _ (by rw [hst, hgone]; rfl) (by rw [htime]; simp)
        | false =>
          rw [List.filter_cons_of_neg (by simp [hgone])]
          exact foldl_events_congr _ _ _ (by rw [hst, hgone]; rfl) htime

theorem presenceUpdated (s : State) : PresenceUpdated allStations s (presenceUpdate s) :=
  presenceUpdated_foldl allStations (by decide) s

theorem mem_allStations (j : StationNo) : j ∈ allStations := by cases j <;> decide

/-! ### One entry at the end of a beacon interval (R29, R30) -/

theorem intervalEntry_heard {x : PeerEntry} (h : x.heardNow = true) : intervalEntry x = { x with heardNow := false } := by
  simp [intervalEntry, h]

theorem intervalEntry_missed {x : PeerEntry} (h : x.heardNow = false) (hp : x.present = false ∨ x.missed < 3) :
    intervalEntry x = { x with heard := 0, missed := min 15 (x.missed + 1) } := by
  have hfew : ¬(x.present && decide (4 ≤ inc15 x.missed)) = true := by
    intro hc
    obtain ⟨hx, hm⟩ := Bool.and_eq_true_iff.1 hc
    have hm := of_decide_eq_true hm
    unfold inc15 at hm
    rcases hp with hp | hp
    · simp [hp] at hx
    · omega
  unfold intervalEntry
  rw [if_neg (by simp [h])]
  exact if_neg hfew

theorem intervalEntry_gone {x : PeerEntry} (h : x.heardNow = false) (hp : x.present = true) (hm : 3 ≤ x.missed) :
    intervalEntry x = ⟨false, 0, min 15 (x.missed + 1), false, .unknown, 0⟩ := by
  have hmany : (x.present && decide (4 ≤ inc15 x.missed)) = true :=
    Bool.and_eq_true_iff.2 ⟨hp, decide_eq_true (by unfold inc15; omega)⟩
  unfold intervalEntry
  rw [if_neg (by simp [h])]
  refine (if_pos hmany).trans ?_
  rw [h]
  rfl

theorem goesAbsent_eq {s : State} {k : StationNo} (hk : s.group.number = some k) (j : StationNo) :
    goesAbsent s j = (j != k && !(stationGet s.group.table j).heardNow && (stationGet s.group.table j).present &&
      decide (3 ≤ (stationGet s.group.table j).missed)) := by
  have hne : decide (s.group.number ≠ some j) = (j != k) := by
    by_cases h : j = k
    · simp [hk, h]
    · simp [hk, h, Ne.symm h]
  simp only [goesAbsent, hne]
  generalize stationGet s.group.table j = x
  cases hh : x.heardNow with
  | true => simp [intervalEntry_heard hh]
  | false =>
    by_cases hp : x.present = true
    · by_cases hm : 3 ≤ x.missed
      · simp [intervalEntry_gone hh hp hm, hp, hm]
      · simp [intervalEntry_missed hh (.inr (by omega)), hp, hm]
    · simp [hp]

end Sys2Proof.Machine

namespace Sys2Proof.Machine

/-! ### The MARK a station sends (R26) -/

theorem bodySeq_byte2 (q : Seq) (rest : List Byte) : bodySeq (byte2 q.toNat ++ rest) 0 = q := by
  have hq := q.isLt
  rw [bodySeq, bodyWord_byte2, Nat.mod_eq_of_lt (by omega), BitVec.ofNat_toNat, BitVec.setWidth_eq]

theorem horizonOfBody_horizonBytes (a b c d e : Byte) (h : Horizon) (rest : List Byte) :
    horizonOfBody (a :: b :: c :: d :: e :: (horizonBytes h ++ rest)) = h := by
  cases h with
  | unknown => rfl
  | openEnded => rfl
  | bound x => exact congrArg Horizon.bound (bodySeq_byte2 x rest)

theorem markedLines_eq (s : State) : markedLines s = (allPairs.filter (fun p => (line s p).state == .service)).map (line s) := by
  rw [markedLines, List.filter_map]
  rfl

/-- R26, R180: what a MARK carries of the station that sends it. -/
theorem markBlock_fields {s : State} {ns e : Seq} (k : StationNo) (hns : s.sequencer.ns = some ns) (he : s.release.e = some e) :
    let x := markBlock k s
    x.sender = stationAddress k ∧ x.body.length = 11 ∧ x.body.getD 0 0 = roleByte (config s).role ∧ bodySeq x.body 1 = ns ∧
      bodySeq x.body 3 = e ∧ horizonOfBody x.body = ownHorizon s ∧
      bodyByte x.body 8 = (allPairs.filter (fun p => (line s p).state == .service)).length ∧
      bodyWord x.body 9 =
        ((allPairs.filter (fun p => (line s p).state == .service)).map (fun p => (line s p).sendRate)).sum % 65536 := by
  have hcount : (allPairs.filter (fun p => (line s p).state == .service)).length ≤ 4 := List.length_filter_le _ allPairs
  have hbody : (markBlock k s).body = roleByte (config s).role :: (byte2 ns.toNat ++ (byte2 e.toNat ++ (horizonBytes (ownHorizon s) ++
      (byte1 (markedLines s).length ++ byte2 (ownCapacity s))))) := by
    simp only [markBlock, hns, he, Option.map_some, Option.getD_some, List.append_assoc]
    rfl
  have first (a : Byte) (rest : List Byte) : bodySeq (a :: (byte2 ns.toNat ++ rest)) 1 = ns := bodySeq_byte2 ns rest
  have second (a : Byte) (rest : List Byte) : bodySeq (a :: (byte2 ns.toNat ++ (byte2 e.toNat ++ rest))) 3 = e := bodySeq_byte2 e rest
  dsimp only
  rw [hbody]
  refine ⟨rfl, rfl, rfl, first _ _, second _ _,
    horizonOfBody_horizonBytes _ _ _ _ _ _ (byte1 (markedLines s).length ++ byte2 (ownCapacity s)), ?_, ?_⟩
  · show bodyByte (byte1 (markedLines s).length ++ byte2 (ownCapacity s)) 0 = _
    rw [bodyByte_byte1 (by rw [markedLines_eq, List.length_map]; omega), markedLines_eq, List.length_map]
  · show bodyWord (byte2 (ownCapacity s)) 0 = _
    rw [← List.append_nil (byte2 _), bodyWord_byte2, ownCapacity, markedLines_eq, List.map_map]
    rfl

/-! ### The beacon (R25, R29, R30, R157) -/

/-- R25, R26: the MARK placed and the beacon timer loaded again. -/
def markPlaced (k : StationNo) (s : State) : State :=
  { placeBlock .mark (markBlock k s) s with group.beacon := .running Config.beaconPeriod }

/-- R30, R157: whether a peer's presence has changed. -/
def presenceChanged (s t : State) : Bool :=
  allStations.any (fun j => (stationGet s.group.table j).present != (stationGet t.group.table j).present)

theorem exec_beaconExpiry_active {s : State} {k : StationNo} (hm : s.group.mode = .active) (hk : s.group.number = some k)
    (hb : s.group.beacon = .running 0) :
    exec .beaconExpiry s = .next (if presenceChanged s (presenceUpdate (markPlaced k s)) then
      evidenceSkip (presenceUpdate (markPlaced k s)) else presenceUpdate (markPlaced k s)) := by
  simp only [exec, execBeaconExpiry, hk, isActive, hm, isDue, hb]
  rfl

/-- R30: an entry's presence changes only when the peer becomes ABSENT. -/
theorem intervalEntry_present (x : PeerEntry) : (intervalEntry x).present = true → x.present = true := by
  unfold intervalEntry
  dsimp only
  split
  · exact id
  · split
    · simp
    · exact id

theorem presenceChanged_iff {s t : State} (h : PresenceUpdated allStations s t) :
    presenceChanged s t = true ↔ ∃ j, goesAbsent s j = true := by
  simp only [presenceChanged, List.any_eq_true, bne_iff_ne]
  have hone : ∀ j, (stationGet s.group.table j).present ≠ (stationGet t.group.table j).present ↔ goesAbsent s j = true := by
    intro j
    by_cases hj : s.group.number = some j
    · simp [goesAbsent, hj, h.kept j (.inr hj)]
    · have hstays := intervalEntry_present (stationGet s.group.table j)
      rw [h.updated j (mem_allStations j) hj]
      simp only [goesAbsent, hj, ne_eq, not_false_eq_true, decide_true, Bool.true_and]
      revert hstays
      cases (stationGet s.group.table j).present <;> cases (intervalEntry (stationGet s.group.table j)).present <;> simp
  exact ⟨fun ⟨j, _, hj⟩ => ⟨j, (hone j).1 hj⟩, fun ⟨j, hj⟩ => ⟨j, mem_allStations j, (hone j).2 hj⟩⟩

/-- R157: the evidence skip leaves the SKIP slot, or fills it with SKIP(E). -/
theorem evidenceSkip_slot {s : State} {k : StationNo} {e : Seq} (hk : s.group.number = some k) (he : s.release.e = some e) :
    (evidenceSkip s).port.skip = s.port.skip ∨ (evidenceSkip s).port.skip = some ⟨⟨seqValue e, stationAddress k, 0, []⟩, 0⟩ := by
  obtain h | ⟨-, -, -, -, h⟩ := evidenceSkip_cases s
  · exact .inl (by rw [h])
  · exact .inr (by rw [h, placeSkip_eq hk he]; rfl)

/-- A state that differs from an updated one in the SKIP slot alone. -/
theorem skipped_parts {s t : State} (b : Bool) (h : t = { s with group := t.group, port := t.port, status := t.status }) :
    let v := if b then evidenceSkip t else t
    v.group = t.group ∧ v.status = t.status ∧ v.port = { t.port with skip := v.port.skip } ∧
      v = { s with port := v.port, group := v.group, status := v.status } := by
  cases b with
  | false => exact ⟨rfl, rfl, rfl, h⟩
  | true =>
    refine ⟨evidenceSkip_group t, evidenceSkip_status t, evidenceSkip_port t, ?_⟩
    have ported (x : BusPort) : { t with port := x } = { s with port := x, group := t.group, status := t.status } := by rw [h]
    show evidenceSkip t = { s with port := (evidenceSkip t).port, group := (evidenceSkip t).group, status := (evidenceSkip t).status }
    rw [evidenceSkip_group, evidenceSkip_status, ← ported, evidenceSkip_port]
    exact evidenceSkip_parts t

/-- Settles O32: the peers' entries in ascending order, the MARK placed and the evidence skip tested after them. -/
theorem beaconExpiryPlacesAMarkAndUpdatesPresence : Obligations.BeaconExpiryPlacesAMarkAndUpdatesPresence := by
  refine ⟨fun s n hb => ?_, fun s k ns e hm hk hb hns he => ?_⟩
  · simp only [exec, execBeaconExpiry, hb, isDue, Bool.and_false, Bool.false_eq_true, if_false]
    split <;> rfl
  · have hup := presenceUpdated (markPlaced k s)
    have hchanged : presenceChanged s (presenceUpdate (markPlaced k s)) = true ↔ ∃ j, goesAbsent s j = true :=
      presenceChanged_iff (s := markPlaced k s) hup
    set P := presenceUpdate (markPlaced k s) with hP
    have hframe : P = { s with group := P.group, port := P.port, status := P.status } := by
      rw [hup.frame]
      rfl
    have hport : P.port = { s.port with mark := P.port.mark } := by
      rw [hup.frame]
      rfl
    have hgroup : P.group = { s.group with table := P.group.table, beacon := .running 1000 } := by
      rw [hup.frame]
      rfl
    have hmark : P.port.mark = some ⟨markBlock k s, 0⟩ := by
      rw [hup.frame]
      rfl
    have hstatus : P.status = ((allStations.filter (goesAbsent s)).foldl
        (fun v j => recordEvent .peerAbsent (stationIndex j) 0 v) s).status :=
      hup.status.trans (foldl_events_congr _ _ _ rfl rfl)
    have htable : ∀ j, j ≠ k → stationGet P.group.table j = intervalEntry (stationGet s.group.table j) := fun j hj =>
      hup.updated j (mem_allStations j) (by
        show s.group.number ≠ some j
        rw [hk]
        simpa using Ne.symm hj)
    have hskip : (evidenceSkip P).port.skip = (evidenceSkip { s with group := P.group }).port.skip := by
      refine evidenceSkip_skip_congr _ _ rfl ?_ ?_ ?_ ?_ <;> rw [hup.frame] <;> rfl
    have hgone : ∀ j, goesAbsent s j = true ↔ j ≠ k ∧ (stationGet s.group.table j).heardNow = false ∧
        (stationGet s.group.table j).present = true ∧ 3 ≤ (stationGet s.group.table j).missed := by
      intro j
      rw [goesAbsent_eq hk j]
      simp [and_assoc]
    obtain ⟨hvg, hvs, hvp, hv⟩ := skipped_parts (presenceChanged s P) hframe
    obtain ⟨hsender, hlen, hrole, hmns, hme, hhor, hpairs, hcap⟩ := markBlock_fields k hns he
    refine ⟨_, markBlock k s, exec_beaconExpiry_active hm hk hb, ?_, hsender, hlen, hrole, hmns, hme, hhor, hpairs, hcap, fun j hj hh => ?_,
      fun j hj hh hp => ?_, fun j hj hh hp hmi => ?_, ?_, ?_, ?_, fun hex => ?_, fun hno => ?_, ?_, hv, ?_⟩
    · rw [hvp, ← hmark]
    · rw [hvg, htable j hj, intervalEntry_heard hh]
    · rw [hvg, htable j hj, intervalEntry_missed hh hp]
    · rw [hvg, htable j hj, intervalEntry_gone hh hp hmi]
    · rw [hvg]
      exact hup.kept k (.inr hk)
    · rw [hvg]
      exact hgroup
    · rw [hvp, hport]
    · obtain ⟨j, hj⟩ := hex
      have hc := hchanged.2 ⟨j, (hgone j).2 hj⟩
      rw [hvg]
      simp only [← hP, hc, if_true]
      exact hskip
    · have hc : presenceChanged s P = false := Bool.eq_false_iff.2 fun hc => by
        obtain ⟨j, hj⟩ := hchanged.1 hc
        obtain ⟨hjk, hh, hp, hmi⟩ := (hgone j).1 hj
        have := hno j hjk hh hp
        omega
      simp only [← hP, hc, Bool.false_eq_true, if_false]
      rw [hport]
    · have hskip0 : P.port.skip = s.port.skip := by rw [hport]
      simp only [← hP]
      split
      · rw [← hskip0]
        exact evidenceSkip_slot (by rw [hgroup]; exact hk) (by rw [hframe]; exact he)
      · exact .inl hskip0
    · rw [hvs, hstatus]
      have hfilter : allStations.filter (goesAbsent s) = allStations.filter (fun j => j != k && !(stationGet s.group.table j).heardNow &&
          (stationGet s.group.table j).present && decide (3 ≤ (stationGet s.group.table j).missed)) :=
        List.filter_congr fun j _ => goesAbsent_eq hk j
      rw [hfilter]

end Sys2Proof.Machine

namespace Sys2Proof.Machine

/-! ### What is observed (R7, R13) -/

theorem observe_heard {k : SlotKind} (h : k ≠ .claim) (blk : BusBlock) (s : State) :
    observe k (.heard blk) s = some (false, blk, closeByOther (blockEnded s)) := if_neg h

theorem observe_own {k : SlotKind} {s : State} {x : OnLine} (hx : s.port.onLine = some x) (hk : x.kind = k) :
    observe k .own s = some (true, x.block, blockEnded { s with port := { s.port with onLine := none } }) := by
  simp only [observe, hx, if_pos hk]

/-- R3: addresses 6 and 7 are no station's. -/
theorem stationOfAddress_none {x : Address} (h : x.toNat = 6 ∨ x.toNat = 7) : stationOfAddress x = none := by
  rcases h with h | h <;> simp [stationOfAddress, h]

/-! ### A MARK of a peer (R22, R27, R28, R32) -/

section
variable {s : State} {blk : BusBlock}

theorem markAdmitted_iff {r : Role} :
    markAdmitted r blk = true ↔ (stationOfAddress blk.sender).isSome = true ∧ blk.body.length = 11 ∧ blk.body.getD 0 0 = roleByte r := by
  simp only [markAdmitted, Bool.and_eq_true, beq_iff_eq, and_assoc]

theorem exec_mark_refused (h : markAdmitted (config s).role blk = false) :
    exec (.mark (.heard blk)) s = .next (closeByOther (blockEnded s)) := by
  simp only [exec, execMark, observe_heard (k := .mark) nofun]
  refine congrArg Host.Outcome.next (if_pos ?_)
  rw [show config (closeByOther (blockEnded s)) = config s by simp [config], h]
  rfl

/-- R22, R28, R32: an admitted MARK by the mode of the station. -/
theorem exec_mark_admitted {j : StationNo} (h : markAdmitted (config s).role blk = true)
    (hj : stationOfAddress blk.sender = some j) :
    exec (.mark (.heard blk)) s = .next (match s.group.mode with
      | .listening => if s.group.number = some j then enterConflict (closeByOther (blockEnded s))
          else joinMark j blk (closeByOther (blockEnded s))
      | .active => if s.group.number = some j then enterConflict (closeByOther (blockEnded s))
          else markHeard j blk (closeByOther (blockEnded s))
      | _ => closeByOther (blockEnded s)) := by
  simp only [exec, execMark, observe_heard (k := .mark) nofun]
  refine congrArg Host.Outcome.next ((if_neg ?_).trans ?_)
  · rw [show config (closeByOther (blockEnded s)) = config s by simp [config], h]
    decide
  · simp only [hj, closeByOther_group, blockEnded_group] <;> cases s.group.mode <;> rfl

end

/-- R28: whether a MARK makes an ABSENT peer PRESENT. -/
def markAppears (blk : BusBlock) (old : PeerEntry) : Bool := !old.present && decide (3 ≤ (heardEntry blk old).heard)

/-- R28, R30: the entry of a peer after its admitted MARK. -/
def markEntry (blk : BusBlock) (old : PeerEntry) : PeerEntry :=
  { heardEntry blk old with present := old.present || markAppears blk old }

/-- R28, R30: the table with the MARK's entry, and the event of a peer that appears. -/
def markStored (k : StationNo) (blk : BusBlock) (s : State) : State :=
  let old := stationGet s.group.table k
  let t := { s with group.table := stationSet s.group.table k (markEntry blk old) }
  if markAppears blk old then recordEvent .peerPresent (stationIndex k) 0 t else t

theorem markHeard_eq (k : StationNo) (blk : BusBlock) (s : State) :
    markHeard k blk s =
      if markAppears blk (stationGet s.group.table k) || horizonOfBody blk.body != (stationGet s.group.table k).horizon then
        evidenceSkip (markStored k blk s) else markStored k blk s := rfl

theorem markAppears_iff (blk : BusBlock) (old : PeerEntry) : markAppears blk old = true ↔ old.present = false ∧ 2 ≤ old.heard := by
  simp only [markAppears, Bool.and_eq_true, Bool.not_eq_true', decide_eq_true_eq]
  refine and_congr_right fun _ => ?_
  show 3 ≤ min 15 (old.heard + 1) ↔ _
  omega

theorem markStored_group (k : StationNo) (blk : BusBlock) (s : State) :
    (markStored k blk s).group =
      { s.group with table := stationSet s.group.table k (markEntry blk (stationGet s.group.table k)) } := by
  simp only [markStored]
  split
  · rw [recordEvent_group]
  · rfl

theorem markStored_status (k : StationNo) (blk : BusBlock) (s : State) :
    (markStored k blk s).status = (if markAppears blk (stationGet s.group.table k) then
      recordEvent .peerPresent (stationIndex k) 0 s else s).status := by
  simp only [markStored]
  split
  · exact recordEvent_status_congr _ _ _ rfl rfl
  · rfl

theorem markStored_parts (k : StationNo) (blk : BusBlock) (s : State) :
    markStored k blk s = { s with group := (markStored k blk s).group, status := (markStored k blk s).status } := by
  rw [markStored_group]
  unfold markStored
  dsimp only
  split
  · exact recordEvent_eq _ _ _ _
  · rfl

/-- R28: the entry, field by field. -/
theorem markEntry_eq (blk : BusBlock) (old : PeerEntry) :
    markEntry blk old =
      { present := old.present || decide (3 ≤ min 15 (old.heard + 1))
        heard := min 15 (old.heard + 1)
        missed := 0
        heardNow := true
        horizon := horizonOfBody blk.body
        capacity := min 1024 (bodyWord blk.body 9) } := by
  have hp : (old.present || markAppears blk old) = (old.present || decide (3 ≤ min 15 (old.heard + 1))) := by
    unfold markAppears
    cases old.present <;> rfl
  simp only [markEntry, hp]
  rfl

/-- Settles O33: an admitted MARK by mode and by its peer's entry, and the refused ones. -/
theorem markOfAPeerIsTakenIn : Obligations.MarkOfAPeerIsTakenIn := by
  intro s blk
  refine ⟨fun j hj hlen hrole hother => ?_, fun hno => exec_mark_refused ?_, fun ha hl => ?_, fun x hx hk => ?_⟩
  · have hadm : markAdmitted (config s).role blk = true := markAdmitted_iff.2 ⟨by rw [hj]; rfl, hlen, hrole⟩
    have hexec := exec_mark_admitted hadm hj
    have hug : (closeByOther (blockEnded s)).group = s.group := by simp
    refine ⟨fun hm => ?_, fun hm => ?_⟩
    · set u := closeByOther (blockEnded s)
      rw [hm] at hexec
      simp only [if_neg hother, markHeard_eq] at hexec
      have hg := markStored_group j blk u
      have hst := markStored_status j blk u
      have hW := markStored_parts j blk u
      rw [hug] at hg hst hexec
      have hskip : (evidenceSkip (markStored j blk u)).port.skip =
          (evidenceSkip { u with group := (markStored j blk u).group }).port.skip := by
        refine evidenceSkip_skip_congr _ _ rfl ?_ ?_ ?_ ?_ <;> rw [hW]
      have hport : (markStored j blk u).port = u.port := by rw [hW]
      obtain ⟨hvg, hvs, hvp, hv⟩ := skipped_parts (s := u)
        (markAppears blk (stationGet s.group.table j) || horizonOfBody blk.body != (stationGet s.group.table j).horizon) (by
          rw [hport]
          exact hW)
      refine ⟨_, hexec, ?_, fun i hi => ?_, ?_, ?_, hv, fun hc => ?_, fun hc hh => ?_, fun hp hheard => ?_, fun hc => ?_⟩
      · rw [hvg, hg, stationGet_stationSet_same, markEntry_eq]
      · rw [hvg, hg, stationGet_stationSet_other _ _ hi]
      · rw [hvg, hg]
      · rw [hvp, hport]
      · have hb : (markAppears blk (stationGet s.group.table j) ||
            horizonOfBody blk.body != (stationGet s.group.table j).horizon) = true := by
          rw [Bool.or_eq_true, markAppears_iff, bne_iff_ne]
          exact hc
        rw [hvg]
        simp only [hb, if_true]
        exact hskip
      · have hb : (markAppears blk (stationGet s.group.table j) ||
            horizonOfBody blk.body != (stationGet s.group.table j).horizon) = false := by
          rw [Bool.or_eq_false_iff, ← Bool.not_eq_true, markAppears_iff, hh]
          refine ⟨fun ⟨h1, h2⟩ => ?_, by simp⟩
          rcases hc with hc | hc
          · simp [hc] at h1
          · omega
        simp only [hb, Bool.false_eq_true, if_false]
        exact hport
      · rw [hvs, hst, (markAppears_iff _ _).2 ⟨hp, hheard⟩]
        rfl
      · have hb : markAppears blk (stationGet s.group.table j) = false := by
          rw [← Bool.not_eq_true, markAppears_iff]
          rintro ⟨h1, h2⟩
          rcases hc with hc | hc
          · simp [hc] at h1
          · omega
        rw [hvs, hst, hb]
        rfl
    · rw [hm] at hexec
      simp only [if_neg hother] at hexec
      rw [hexec, joinMark, hug]
  · rw [← Bool.not_eq_true, markAdmitted_iff]
    rintro ⟨hs, hl, hr⟩
    rcases hno with h | h | h | h
    · simp [stationOfAddress_none (.inl h)] at hs
    · simp [stationOfAddress_none (.inr h)] at hs
    · exact h hl
    · exact h hr
  · cases hadm : markAdmitted (config s).role blk with
    | false => exact exec_mark_refused hadm
    | true =>
      obtain ⟨j, hj⟩ := Option.isSome_iff_exists.1 (markAdmitted_iff.1 hadm).1
      rw [exec_mark_admitted hadm hj]
      split
      · next h => exact absurd h hl
      · next h => exact absurd h ha
      · rfl
  · simp only [exec, execMark, observe_own hx hk]
    rfl

end Sys2Proof.Machine

namespace Sys2Proof.Machine

/-! ### The close of a claim slot (R13, R42, R47) -/

/-- R42, R47: what the close with no claim counts. -/
def closedCounts (q : Sequencer) (c : StationCounters) : StationCounters :=
  { c with
    claimsLost := if q.phase = .claiming then c.claimsLost + 1 else c.claimsLost
    unclaimed := if countsUnclaimed q then c.unclaimed + 1 else c.unclaimed }

/-- R13, R14, R42, R47: a claim slot that closes with no claim. -/
theorem closeNoClaim_eq (s : State) :
    closeNoClaim s =
      { s with
        port := { s.port with slotOpen := false, claim := none, latch := none }
        sequencer := { s.sequencer with phase := .idle, verdict := none, bidding := none }
        status.live.station := closedCounts s.sequencer s.status.live.station } := by
  unfold closeNoClaim countLost closedCounts
  by_cases hp : s.sequencer.phase = .claiming <;> by_cases hu : countsUnclaimed s.sequencer = true <;>
    simp only [hp, hu, if_true, if_false, Bool.false_eq_true] <;> rfl

theorem closeByOther_parts (s : State) :
    (closeByOther s).port.onLine = s.port.onLine ∧ (closeByOther s).sequencer.ns = s.sequencer.ns := by
  obtain ⟨h, -⟩ | ⟨h, -⟩ := closeByOther_cases s <;> rw [h]
  · exact ⟨rfl, rfl⟩
  · rw [closeNoClaim_eq]
    exact ⟨rfl, rfl⟩

/-! ### The exit of a pair at CONFLICT (R33, R76, R77, R85) -/

/-- R85: k after an exit. -/
def keptK (u : LineUnit) : Nat :=
  match u.serviceClock with
  | .stopped => u.k
  | .running 0 => 0
  | .running (_ + 1) => min 7 (u.k + 1)

/-- A line unit OFF with nothing running or pending, and the parting LEAVE it sends, if any. -/
def offLine (u : LineUnit) (k : Nat) (queue : List Fragment) (parting : Option Nat) : LineUnit :=
  { u with
    state := .off
    k := k
    queue := queue
    holdOff := .stopped
    monitor := .stopped
    lit := false
    detect := .stopped
    training := .stopped
    qualification := .stopped
    train := .start
    qualify := .start
    serviceClock := .stopped
    svc := .clear
    ctl := .empty
    tx := parting.map (fun rate => ⟨.leave, u.txCount, rate⟩)
    txCount := if parting.isSome then u.txCount + 1 else u.txCount }

/-- R76, R125: the fragments of an exit counted as discarded, and its event with the reason CONFLICT. -/
def leftConflict (p : Pair) (u : LineUnit) (t : State) : State :=
  recordEvent .leftService (pairIndex p) 4
    (countPair p (fun c => { c with discarded := c.discarded + BitVec.ofNat 32 u.queue.length }) t)

theorem exitPair_conflict (p : Pair) (s : State) :
    exitPair p .conflict s = evidenceSkip (leftConflict p (line s p) (setLine p (exitLine .conflict s (line s p)) s)) := rfl

theorem exitLine_conflict_eq (s : State) (u : LineUnit) :
    exitLine .conflict s u = offLine u (keptK u) [] (if ownLeaveStarted u then none else some u.sendRate) := by
  have hk : stopWork { raiseKAtExit u with queue := [] } = { stopWork { u with queue := [] } with k := keptK u } := by
    unfold raiseKAtExit keptK
    cases u.serviceClock with
    | stopped => rfl
    | running n => cases n <;> rfl
  simp only [exitLine, hk, if_true, partingLeave]
  cases ownLeaveStarted u <;> rfl

/-- R33, R123: what the entry to CONFLICT makes of a line unit. -/
def conflictedLine (s : State) (u : LineUnit) : LineUnit :=
  if inService u then
    if ownLeaveOnPair u then deferExit .conflict u else exitLine .conflict s u
  else conflictLine u

/-- The pairs taken one after another: each makes its own entry, and the exits of those in service are counted and handed
over in that order. -/
theorem foldl_conflictPair (l : List Pair) (hl : l.Nodup) (s z : State) (hs : z.status = s.status) (hb : z.timeBase = s.timeBase) :
    let t := l.foldl (fun t p => conflictPair p t) s
    (∀ p ∈ l, line t p = conflictedLine s (line s p)) ∧ (∀ p, p ∉ l → line t p = line s p) ∧
      t.status = ((l.filter (fun p => inService (line s p) && !ownLeaveOnPair (line s p))).foldl
        (fun z p => leftConflict p (line s p) z) z).status := by
  induction l generalizing s z with
  | nil => exact ⟨by simp, fun _ _ => rfl, hs.symm⟩
  | cons q l ih =>
    obtain ⟨hal, hl⟩ := List.nodup_cons.1 hl
    have hother : ∀ p, p ≠ q → line (conflictPair q s) p = line s p := fun p hp => line_conflictPair_other s hp
    have hmem : ∀ p ∈ l, p ≠ q := fun p hp h => hal (h ▸ hp)
    have hev : (leftConflict q (line s q) z).status = (leftConflict q (line s q) s).status :=
      recordEvent_status_congr _ _ _ (by simp only [countPair, hs]) hb
    have hstatus := conflictPair_status q s
    have hfilter : l.filter (fun p => inService (line (conflictPair q s) p) && !ownLeaveOnPair (line (conflictPair q s) p)) =
        l.filter (fun p => inService (line s p) && !ownLeaveOnPair (line s p)) :=
      List.filter_congr fun p hp => by rw [hother p (hmem p hp)]
    have hfold : ∀ z : State, (l.filter (fun p => inService (line s p) && !ownLeaveOnPair (line s p))).foldl
        (fun z p => leftConflict p (line (conflictPair q s) p) z) z =
        (l.filter (fun p => inService (line s p) && !ownLeaveOnPair (line s p))).foldl (fun z p => leftConflict p (line s p) z) z :=
      fun z => List.foldl_ext _ _ _ fun z p hp => by rw [hother p (hmem p (List.mem_filter.1 hp).1)]
    simp only [List.foldl_cons]
    cases hc : inService (line s q) && !ownLeaveOnPair (line s q) with
    | true =>
      rw [hc, if_pos rfl] at hstatus
      obtain ⟨hin, hout, hst⟩ := ih hl (conflictPair q s) (leftConflict q (line s q) z) (hev.trans hstatus.symm)
        (by simp [leftConflict, hb])
      refine ⟨fun p hp => ?_, fun p hp => ?_, ?_⟩
      · obtain rfl | hp := List.mem_cons.1 hp
        · rw [hout _ hal, line_conflictPair_same]
          rfl
        · rw [hin p hp, hother p (hmem p hp)]
          simp only [conflictedLine, exitLine_conflict _ s]
      · rw [List.mem_cons, not_or] at hp
        rw [hout p hp.2, hother p hp.1]
      · rw [hst, hfilter, hfold, List.filter_cons, if_pos hc, List.foldl_cons]
    | false =>
      rw [hc, if_neg (by decide)] at hstatus
      obtain ⟨hin, hout, hst⟩ := ih hl (conflictPair q s) z (hs.trans hstatus.symm) (by simp [hb])
      refine ⟨fun p hp => ?_, fun p hp => ?_, ?_⟩
      · obtain rfl | hp := List.mem_cons.1 hp
        · rw [hout _ hal, line_conflictPair_same]
          rfl
        · rw [hin p hp, hother p (hmem p hp)]
          simp only [conflictedLine, exitLine_conflict _ s]
      · rw [List.mem_cons, not_or] at hp
        rw [hout p hp.2, hother p hp.1]
      · rw [hst, hfilter, hfold, List.filter_cons, if_neg (by simp [hc])]

theorem line_enterConflict (s : State) (p : Pair) : line (enterConflict s) p = conflictedLine s (line s p) := by
  obtain ⟨h, -, -⟩ := foldl_conflictPair allPairs (by decide) (conflictBegun s) (conflictBegun s) rfl rfl
  refine (h p (mem_allPairs p)).trans ?_
  simp only [conflictedLine, exitLine_conflict _ s]
  rfl

theorem enterConflict_status (s : State) :
    (enterConflict s).status = ((allPairs.filter (fun p => inService (line s p) && !ownLeaveOnPair (line s p))).foldl
      (fun z p => leftConflict p (line s p) z) s).status :=
  (foldl_conflictPair allPairs (by decide) (conflictBegun s) s rfl rfl).2.2

/-- R33, R77, R86: a line unit whose own LEAVE is not on its pair goes OFF at once. -/
def partsLine (u : LineUnit) : LineUnit :=
  let ownLeave (u : LineUnit) : Option Nat := if u.svc.windDown.any (fun w => w.leaveStarted) then none else some u.sendRate
  match u.state with
  | .off => offLine u u.k u.queue none
  | .quiet => offLine u u.k u.queue none
  | .detect => offLine u u.k u.queue (some 1)
  | .train => offLine u u.k u.queue (some 1)
  | .qualify => offLine u u.k u.queue (some u.trainedSend)
  | .service => offLine u (keptK u) [] (ownLeave u)
  | .windDown => offLine u (keptK u) [] (ownLeave u)

theorem conflictedLine_parts (s : State) {u : LineUnit} (h : ownLeaveOnPair u = false) : conflictedLine s u = partsLine u := by
  have hany : u.svc.windDown.any (fun w => w.leaveStarted) = ownLeaveStarted u := by
    unfold ownLeaveStarted
    cases u.svc.windDown <;> rfl
  simp only [conflictedLine, h, partsLine, hany, exitLine_conflict_eq]
  cases hst : u.state <;> simp only [inService, hst, conflictLine] <;> rfl

theorem conflictedLine_waits (s : State) {u : LineUnit} (h : ownLeaveOnPair u = true) : conflictedLine s u = deferExit .conflict u := by
  have hin : inService u = true := by
    unfold ownLeaveOnPair at h
    split at h
    · simp only [Bool.and_eq_true] at h
      simp [inService, eq_of_beq h.1.1]
    · simp at h
  simp only [conflictedLine, hin, h, if_true]

/-- The time base and the waiting commands apart, a state is given by its other parts. -/
theorem State.eq_of_time {s t : State} (hb : t.timeBase = s.timeBase) (hp : t.pending = s.pending) :
    t = { s with port := t.port, group := t.group, sequencer := t.sequencer, lines := t.lines,
                 holdQueue := t.holdQueue, release := t.release, status := t.status } := by
  rw [← hb, ← hp]

/-- R77, R122: the end of the own LEAVE of a wind-down whose exit CONFLICT has put off. -/
theorem exec_ownLeaveSent_conflict {p : Pair} {s : State} {i : BitVec 24} {r : Nat} {w : WindDownRecord}
    (hst : (line s p).state = .windDown) (htx : (line s p).tx = some ⟨.leave, i, r⟩) (hw : (line s p).svc.windDown = some w)
    (hs : w.leaveStarted = true) (hd : w.deferred = some .conflict) :
    exec (.ownLeaveSent p) s =
      .next (evidenceSkip (leftConflict p (line s p) (setLine p (offLine (line s p) (keptK (line s p)) [] none) s))) := by
  have hend : frameEnds p s = ownLeaveEnds p (modLine p (fun u => { u with tx := none }) s) := by
    simp only [frameEnds, htx, contentEnds, line_modLine_same, hst, if_true]
  have hline : ownLeaveEnds p (modLine p (fun u => { u with tx := none }) s) = exitPair p .conflict
      (setLine p { line s p with tx := none, svc := { (line s p).svc with windDown := some { w with leaveEnded := true } } } s) := by
    simp only [ownLeaveEnds, line_modLine_same, hw, hd]
    simp only [modLine, line_setLine_same, setLine_setLine]
  simp only [exec, execOwnLeaveSent, endOf, htx, isLeave, if_true]
  rw [hend, hline, exitPair_conflict, exitLine_conflict_eq]
  simp only [line_setLine_same, setLine_setLine, ownLeaveStarted, hs, if_true]
  rfl

/-- Settles O34: the entry to CONFLICT pair by pair, and the end of an own LEAVE that put an exit off. -/
theorem ownNumberHeardMakesConflict : Obligations.OwnNumberHeardMakesConflict := by
  refine ⟨fun s k blk hm hk hsender hlen hrole => ?_, fun p s i r w hst htx hw hs hd => exec_ownLeaveSent_conflict hst htx hw hs hd⟩
  have hadm : markAdmitted (config s).role blk = true := markAdmitted_iff.2 ⟨by rw [hsender]; rfl, hlen, hrole⟩
  have hexec : exec (.mark (.heard blk)) s = .next (enterConflict (closeByOther (blockEnded s))) := by
    rw [exec_mark_admitted hadm hsender]
    rcases hm with hm | hm <;> simp only [hm, if_pos hk]
  have hline : ∀ p, line (closeByOther (blockEnded s)) p = line s p := by simp
  obtain ⟨honline, hns⟩ := closeByOther_parts (blockEnded s)
  refine ⟨_, hexec, by simp; rfl, fun i => ?_, ?_, enterConflict_holdQueue _, by simp, by simp, ?_, fun p hp => ?_, fun p hp => ?_, ?_,
    State.eq_of_time (by simp) (by simp)⟩
  · rw [enterConflict_port]
    exact emptySlots_slots _ i
  · rw [enterConflict_port]
    exact congrArg (Option.map _) honline
  · rw [enterConflict_sequencer]
    exact hns
  · rw [line_enterConflict, hline]
    exact conflictedLine_parts _ hp
  · rw [line_enterConflict, hline]
    exact conflictedLine_waits _ hp
  · rw [enterConflict_status]
    simp only [hline]
    rfl

end Sys2Proof.Machine

namespace Sys2Proof.Machine

/-! ### Contention at an idle bus (R4, R5, R9, R13) -/

/-- R5: the lowest arbitration field is one of them, and none lies below it. -/
theorem lowestField_spec (l : List ArbField) :
    (lowestField l = none ↔ l = []) ∧ ∀ w, lowestField l = some w → w ∈ l ∧ ∀ f ∈ l, w.toNat ≤ f.toNat := by
  induction l with
  | nil => simp [lowestField]
  | cons a l ih =>
    obtain ⟨hnone, hsome⟩ := ih
    unfold lowestField
    split
    · next h => simp_all
    · next y h =>
      obtain ⟨hy, hmin⟩ := hsome y h
      refine ⟨by split <;> simp, fun x hx => ?_⟩
      split at hx <;> obtain rfl := Option.some.inj hx
      · next hle => exact ⟨by simp, by simpa using fun z hz => le_trans hle (hmin z hz)⟩
      · next hle => exact ⟨by simp [hy], by simpa using ⟨by omega, hmin⟩⟩

/-- R9: the lowest kind code of a non-empty slot, CLAIM apart. -/
theorem lowestPending_eq {b : BusPort} {k : SlotKind} {x : PendingBlock} (hk : k ≠ .claim) (hx : slotOf b k = some x)
    (hlow : ∀ j, j ≠ .claim → (slotCode j).toNat < (slotCode k).toNat → slotOf b j = none) : lowestPending b = some (k, x) := by
  have h0 := hlow .rebase
  have h1 := hlow .skip
  have h2 := hlow .mark
  have h3 := hlow .release
  cases k <;> simp_all [lowestPending, slotCode]

/-- R8, R9, R13: what an ACTIVE station starts. -/
theorem contender_eq {s : State} {k : SlotKind} {x : PendingBlock} (hm : s.group.mode = .active) (hx : slotOf s.port k = some x)
    (h : s.port.slotOpen = true ∧ k = .claim ∨ s.port.slotOpen = false ∧ k ≠ .claim ∧
      ∀ j, j ≠ .claim → (slotCode j).toNat < (slotCode k).toNat → slotOf s.port j = none) : contender s = some (k, x) := by
  rcases h with ⟨ho, rfl⟩ | ⟨ho, hk, hlow⟩
  · have hc : s.port.claim = some x := hx
    simp [contender, isActive, hm, ho, hc]
  · simp [contender, isActive, hm, ho, lowestPending_eq hk hx hlow]

theorem contender_none {s : State} (h : s.group.mode ≠ .active ∨ (s.port.slotOpen = true ∧ s.port.claim = none) ∨
    (s.port.slotOpen = false ∧ ∀ k, k ≠ .claim → slotOf s.port k = none)) : contender s = none := by
  rcases h with h | ⟨ho, hc⟩ | ⟨ho, hs⟩
  · simp [contender, isActive, h]
  · simp [contender, ho, hc]
  · have hp : lowestPending s.port = none := by
      simp [lowestPending, hs .rebase, hs .skip, hs .mark, hs .release, hs .reply]
    simp [contender, ho, hp]

/-- Settles O35: the contention by what the station starts and by the other fields. -/
theorem lowestFieldTakesTheIdleBus : Obligations.LowestFieldTakesTheIdleBus := by
  intro s others hl hr hd
  have hfree : ¬lineTaken s.port = true := by simp [lineTaken, hl, hr, hd]
  refine ⟨fun k x hm hx hcase => ?_, fun hnothing => ?_⟩
  · have hcon := contender_eq hm hx hcase
    refine ⟨fun hlow => ?_, fun ⟨f, hf, hlt⟩ => ?_⟩
    · have hall : others.all (fun f => decide ((arbField (slotCode k) x.block).toNat ≤ f.toNat)) = true := by simpa using hlow
      simp only [exec, execBusIdleContend, if_neg hfree, hcon, if_pos hall]
    · have hnot : ¬others.all (fun f => decide ((arbField (slotCode k) x.block).toNat ≤ f.toNat)) = true := by
        simpa using ⟨f, hf, hlt⟩
      obtain ⟨hnone, hsome⟩ := lowestField_spec others
      obtain ⟨w, hw⟩ := Option.ne_none_iff_exists'.1 fun h => List.ne_nil_of_mem hf (hnone.1 h)
      obtain ⟨hmem, hmin⟩ := hsome w hw
      refine ⟨{ s with port := { (if k = .claim then setSlot s.port .claim none else s.port) with receiveBuffer := some w } }, w, ?_,
        hmem, hmin, rfl, rfl⟩
      simp only [exec, execBusIdleContend, if_neg hfree, hcon, if_neg hnot, hw]
  · have hcon := contender_none hnothing
    refine ⟨{ s with port := { s.port with receiveBuffer := lowestField others } }, ?_, hl, fun h => ?_, rfl⟩
    · simp only [exec, execBusIdleContend, if_neg hfree, hcon]
    · rw [h, lowestField, ← hr]

/-! ### An aborted block (R6, R10, R11, R14) -/

theorem exec_sendAbort {s : State} {x : OnLine} (hx : s.port.onLine = some x) (hk : x.kind ≠ .claim) :
    exec .sendAbort s = .next (attemptFailed x (aborted s)) := by
  simp only [exec, execSendAbort, hx, if_neg hk]
  rfl

theorem exec_sendAbort_claim {s : State} {x : OnLine} (hx : s.port.onLine = some x) (hk : x.kind = .claim) :
    exec .sendAbort s = .next (if s.port.slotOpen then closeNoClaim (aborted s) else aborted s) := by
  simp only [exec, execSendAbort, hx, if_pos hk]
  rfl

section
variable {s : State} {x : OnLine}

theorem attemptFailed_aside (h : slotOf s.port x.kind ≠ none) : attemptFailed x s = s := by
  obtain ⟨y, hy⟩ := Option.ne_none_iff_exists'.1 h
  simp only [attemptFailed, hy]

theorem attemptFailed_withdrawn (h : slotOf s.port x.kind = none) (hr : x.retry = false) :
    attemptFailed x s = if x.kind = .release then tryRelease s else s := by
  simp only [attemptFailed, h, hr, Bool.not_false, if_true]

theorem attemptFailed_again (h : slotOf s.port x.kind = none) (hr : x.retry = true) (hf : x.fails < 3) :
    attemptFailed x s = { s with port := setSlot s.port x.kind (some ⟨x.block, x.fails + 1⟩) } := by
  simp only [attemptFailed, h, hr, Bool.not_true, Bool.false_eq_true, if_false]
  exact if_neg (Nat.not_le.2 (Nat.succ_lt_succ hf))

theorem attemptFailed_dropped (h : slotOf s.port x.kind = none) (hr : x.retry = true) (hf : 3 ≤ x.fails) :
    attemptFailed x s = blockDropped x s := by
  simp only [attemptFailed, h, hr, Bool.not_true, Bool.false_eq_true, if_false]
  exact if_pos (Nat.succ_le_succ hf)

end

/-- R11: the drop counted, before its owner is told. -/
def dropCounted (s : State) : State := countStation (fun c => { c with droppedBlocks := satInc c.droppedBlocks }) s

theorem blockDropped_eq (x : OnLine) (s : State) :
    blockDropped x s =
      match x.kind with
      | .release => releaseDropped x.block (dropCounted s)
      | .skip => skipDropped (dropCounted s)
      | _ => dropCounted s := by
  unfold blockDropped
  cases x.kind <;> rfl

/-- R11: a drop leaves everything but the hold queue and the release controller as the count left it, and then the evidence
skip is tested. -/
theorem releaseDropped_parts (blk : BusBlock) (s : State) :
    releaseDropped blk s =
      evidenceSkip { s with holdQueue := (releaseDropped blk s).holdQueue, release := (releaseDropped blk s).release } := by
  rw [releaseDropped_holdQueue, releaseDropped_release]
  simp only [releaseDropped]
  refine congrArg evidenceSkip ?_
  rw [show isActive (removeEntry (valueSeq blk.value) s) = isActive s from rfl]
  split <;> rfl

theorem skipDropped_parts (s : State) :
    skipDropped s = evidenceSkip { s with holdQueue := (skipDropped s).holdQueue, release := (skipDropped s).release } := by
  rw [skipDropped_holdQueue, skipDropped_release]
  simp only [skipDropped]
  refine congrArg evidenceSkip ?_
  split <;> rfl

/-- R152: whether a head that is not at E waits at an ACTIVE station. -/
theorem waits_iff (s : State) :
    (isActive s && waiting s) = true ↔
      s.group.mode = .active ∧ ∃ h rest, s.holdQueue.entries = h :: rest ∧ s.release.e ≠ some h.seq := by
  simp only [Bool.and_eq_true, isActive, beq_iff_eq]
  refine and_congr_right fun _ => ?_
  cases hq : s.holdQueue.entries with
  | nil => simp [waiting, hq]
  | cons h t =>
    cases he : s.release.e with
    | none => simp [waiting, headAtE, hq, he]
    | some e =>
      rw [waiting_iff he, hq]
      simp only [Option.some.injEq, ne_eq, eq_comm]

end Sys2Proof.Machine

namespace Sys2Proof.Machine

theorem evidenceSkip_port_of {s t : State} (x : HoldQueue) (y : ReleaseController) (h : t = evidenceSkip { s with holdQueue := x, release := y }) :
    t.port = { s.port with skip := t.port.skip } := by
  conv_lhs => rw [h, evidenceSkip_port, ← h]

/-- R11: whatever its kind, a dropped block's owner writes the SKIP slot of the bus port alone, and no counter more. -/
theorem blockDropped_parts (x : OnLine) (s : State) :
    (blockDropped x s).status = (dropCounted s).status ∧ (blockDropped x s).port = { s.port with skip := (blockDropped x s).port.skip } ∧
      (blockDropped x s).release.e = s.release.e := by
  refine ⟨?_, ?_, blockDropped_e s x⟩ <;> rw [blockDropped_eq] <;> cases x.kind <;> dsimp only
  case refine_1.release => rw [releaseDropped_status]
  case refine_1.skip => rw [skipDropped_status]
  case refine_2.release => exact evidenceSkip_port_of (s := dropCounted s) _ _ (releaseDropped_parts x.block (dropCounted s))
  case refine_2.skip => exact evidenceSkip_port_of (s := dropCounted s) _ _ (skipDropped_parts (dropCounted s))
  all_goals rfl

/-- R11, R151, R152: the owner of a dropped RELEASE. -/
theorem releaseDropped_rules (blk : BusBlock) (s : State) :
    let kept := s.holdQueue.entries.filter (fun h => h.seq != valueSeq blk.value)
    let waits : Prop := s.group.mode = .active ∧ ∃ h rest, kept = h :: rest ∧ s.release.e ≠ some h.seq
    (releaseDropped blk s).holdQueue = { s.holdQueue with entries := kept } ∧
      (waits → (releaseDropped blk s).release = { s.release with
        skipTimer := if s.release.hold then .frozen (effectiveSkip s) else .running (effectiveSkip s) }) ∧
      (¬waits → (releaseDropped blk s).release = s.release) := by
  have hwaits := waits_iff (removeEntry (valueSeq blk.value) s)
  rw [releaseDropped_holdQueue, releaseDropped_release]
  exact ⟨rfl, fun h => if_pos (hwaits.2 h), fun h => if_neg fun h' => h (hwaits.1 h')⟩

/-- R11, R154: the owner of a dropped SKIP. -/
theorem skipDropped_rules (s : State) :
    (s.group.mode = .active → waiting s = true → s.release.hold = false →
        (skipDropped s).release = { s.release with skipTimer := .running (effectiveSkip s) }) ∧
      (s.group.mode ≠ .active ∨ waiting s = false ∨ s.release.hold = true → (skipDropped s).release = s.release) := by
  rw [skipDropped_release]
  refine ⟨fun hm hw hh => if_pos (by simp [isActive, hm, hw, hh]), fun h => if_neg ?_⟩
  rcases h with h | h | h
  · simp [isActive, h]
  · simp [h]
  · simp [h]

/-- What a claim slot's close with no claim leaves, with the record's fields written out. -/
theorem closedCounts_eq (q : Sequencer) (c : StationCounters) :
    closedCounts q c = { c with
      claimsLost := if q.phase = .claiming then c.claimsLost + 1 else c.claimsLost
      unclaimed := if q.verdict = some .wellFormed ∧ (∃ b, q.bidding = some b ∧ b.active = true) then c.unclaimed + 1
        else c.unclaimed } := by
  have hiff : countsUnclaimed q = true ↔ q.verdict = some .wellFormed ∧ ∃ b, q.bidding = some b ∧ b.active = true := by
    cases hb : q.bidding <;> simp [countsUnclaimed, hb]
  simp only [closedCounts, hiff]

theorem closeNoClaim_closed (s : State) :
    closeNoClaim s =
      { s with
        port := { s.port with slotOpen := false, claim := none, latch := none }
        sequencer := ⟨s.sequencer.ns, .idle, none, none⟩
        status.live.station := { s.status.live.station with
          claimsLost := if s.sequencer.phase = .claiming then s.status.live.station.claimsLost + 1 else s.status.live.station.claimsLost
          unclaimed := if s.sequencer.verdict = some .wellFormed ∧ (∃ b, s.sequencer.bidding = some b ∧ b.active = true)
            then s.status.live.station.unclaimed + 1 else s.status.live.station.unclaimed } } := by
  rw [closeNoClaim_eq, closedCounts_eq]

theorem slotOf_aborted (s : State) (k : SlotKind) : slotOf (aborted s).port k = slotOf s.port k := by cases k <;> rfl

/-- Settles O36: an abort by the block's kind, its contents held aside and its count. -/
theorem abortedBlockIsRetriedOrDropped : Obligations.AbortedBlockIsRetriedOrDropped := by
  refine ⟨fun s x hx hk => ?_, fun s x hx hk => ⟨fun ho => ?_, fun ho => ?_⟩⟩
  · rw [exec_sendAbort hx hk]
    rw [← slotOf_aborted s x.kind]
    refine ⟨fun h => ?_, fun h hr hrel => ?_, fun h hr hrel => ?_, fun h hr hf => ?_, fun h hr hf => ?_⟩
    · rw [attemptFailed_aside h]
      rfl
    · rw [attemptFailed_withdrawn h hr, if_neg hrel]
      rfl
    · rw [attemptFailed_withdrawn h hr, if_pos hrel]
      rfl
    · rw [attemptFailed_again h hr hf]
      rfl
    · rw [attemptFailed_dropped h hr hf]
      obtain ⟨hstatus, hport, he⟩ := blockDropped_parts x (aborted s)
      have hslot : x.kind ≠ .skip → slotOf (blockDropped x (aborted s)).port x.kind = none := fun hs => by
        rw [hport, ← h]
        cases hk' : x.kind <;> first | rfl | exact absurd hk' hs
      have hplain : x.kind = .mark ∨ x.kind = .reply ∨ x.kind = .rebase → blockDropped x (aborted s) = dropCounted (aborted s) := by
        rw [blockDropped_eq]
        rintro (h | h | h) <;> rw [h]
      have hrelease : x.kind = .release → blockDropped x (aborted s) = releaseDropped x.block (dropCounted (aborted s)) := fun h => by
        rw [blockDropped_eq, h]
      have hskip : x.kind = .skip → blockDropped x (aborted s) = skipDropped (dropCounted (aborted s)) := fun h => by
        rw [blockDropped_eq, h]
      refine ⟨_, rfl, ?_, hstatus, hport, hslot, hplain, fun hk' => ?_, ?_, he, fun hk' => ?_, fun hk' => ?_, fun hk' => ?_, ?_, ?_, ?_⟩
      · rw [hport]
        rfl
      · rcases hk' with hk' | hk'
        · rw [hrelease hk']
          exact releaseDropped_parts _ _
        · rw [hskip hk']
          exact skipDropped_parts _
      · rw [hstatus]
        rfl
      · refine ⟨hslot (by rcases hk' with h | h | h <;> simp [h]), ?_, ?_⟩ <;> rw [hplain hk'] <;> rfl
      · rw [hrelease hk']
        exact releaseDropped_rules x.block (dropCounted (aborted s))
      · rw [hskip hk']
        exact ⟨by rw [skipDropped_holdQueue]; rfl, skipDropped_rules (dropCounted (aborted s))⟩
      · simp [aborted]
      · simp [aborted]
      · simp [aborted]
  · rw [exec_sendAbort_claim hx hk, ho]
    rfl
  · rw [exec_sendAbort_claim hx hk, ho, if_pos rfl, closeNoClaim_closed]
    rfl

/-! ### Bad blocks, REPLYs and the slot's timeout (R6, R7, R13) -/

/-- Settles O37: each command that closes an open claim slot. -/
theorem blocksAndTimeoutsCloseTheClaimSlot : Obligations.BlocksAndTimeoutsCloseTheClaimSlot := by
  intro s cause blk
  refine ⟨?_, ?_, fun x hx hk => ?_, fun ho hl hr hd => ?_, fun ho hl => ?_, fun h => ?_⟩
  · cases cause <;> rfl
  · simp only [exec, execReplyObserved, observe_heard (k := .reply) nofun]
    rfl
  · simp only [exec, execReplyObserved, observe_own hx hk]
    rfl
  · have hc : (s.port.slotOpen && !lineTaken s.port) = true := by simp [ho, lineTaken, hl, hr, hd]
    simp only [exec, execClaimSlotTimeout, if_pos hc]
    exact congrArg Host.Outcome.next (closeNoClaim_closed s)
  · rw [closeByOther, ho, hl]
    exact closeNoClaim_closed s
  · rcases h with h | h <;> simp [closeByOther, h]

end Sys2Proof.Machine

namespace Sys2Proof.Machine

/-! ### OFFER (R12, R13, R37 to R41) -/

/-- R12, R13: an OFFER from the bridge seen, and latched in a claim slot of its own. -/
def offerLatched (blk : BusBlock) (s : State) : State :=
  latchOffer (offerOfBody blk.body) (countStation (fun c => { c with offersSeen := c.offersSeen + 1 }) (blockEnded s))

theorem exec_offer_closed {s : State} {blk : BusBlock} (hb : blk.sender = bridgeAddress) (ho : s.port.slotOpen = false) :
    exec (.offer blk) s = .next (judgeOffer (offerOfBody blk.body) (offerLatched blk s)) := by
  have hne : ¬bridgeAddress = allStationsAddress := by decide
  have hb' : ¬(bridgeAddress != bridgeAddress) = true := by decide
  simp only [exec, execOffer, hb, if_neg hne, if_neg hb']
  refine congrArg (fun z => Host.Outcome.next (judgeOffer _ (latchOffer _ z))) (if_neg ?_)
  show ¬s.port.slotOpen = true
  simp [ho]

/-- R13: an OFFER in an open claim slot closes that slot first. -/
theorem exec_offer_open {s : State} {blk : BusBlock} (hb : blk.sender = bridgeAddress) (ho : s.port.slotOpen = true) :
    exec (.offer blk) s = exec (.offer blk) (closeNoClaim s) := by
  rw [exec_offer_closed hb (s := closeNoClaim s) (by rw [closeNoClaim_eq])]
  have hne : ¬bridgeAddress = allStationsAddress := by decide
  have hb' : ¬(bridgeAddress != bridgeAddress) = true := by decide
  simp only [exec, execOffer, hb, if_neg hne, if_neg hb', offerLatched]
  refine congrArg (fun z => Host.Outcome.next (judgeOffer _ (latchOffer _ z))) ((if_pos ?_).trans ?_)
  · exact ho
  · rw [closeNoClaim_eq, closeNoClaim_eq]
    rfl

/-- R38: the OFFERs that are malformed. -/
theorem offerVerdict_malformed (body : List Byte) :
    offerVerdict (offerOfBody body) = .malformed ↔
      (body.length < 3 ∨ bodyWord body 0 < 16 ∨ 256 < bodyWord body 0 ∨ body.length ≠ 3 + bodyWord body 0) := by
  by_cases hlen : body.length < 3
  · simp [offerVerdict, offerOfBody, hlen]
  · have hv : offerVerdict (offerOfBody body) =
        if 16 ≤ bodyWord body 0 ∧ bodyWord body 0 ≤ 256 ∧ body.length - 3 = bodyWord body 0 then .wellFormed else .malformed := by
      simp only [offerVerdict, offerOfBody, if_neg hlen, List.length_drop]
    rw [hv]
    split
    · simp only [false_iff, not_or, reduceCtorEq]
      omega
    · simp only [true_iff]
      omega

theorem offerHeader_of_wellFormed {body : List Byte} (h : offerVerdict (offerOfBody body) = .wellFormed) :
    ∃ x, (offerOfBody body).header = some x ∧ x.length = bodyWord body 0 := by
  have hlen : ¬body.length < 3 := fun hlen => by simp [(offerVerdict_malformed body).2 (.inl hlen)] at h
  exact ⟨_, if_neg hlen, rfl⟩

theorem judgeOffer_malformed {o : LatchedOffer} (h : offerVerdict o = .malformed) (s : State) :
    judgeOffer o s = setJudged .watching .malformed none (countStation (fun c => { c with malformed := satInc c.malformed }) s) := by
  simp only [judgeOffer, h]

theorem judgeOffer_wellFormed {o : LatchedOffer} {x : OfferHeader} (h : offerVerdict o = .wellFormed) (hx : o.header = some x)
    (s : State) : judgeOffer o s =
      if isActive s then judgeActive x.length s else setJudged .watching .wellFormed (some biddingInactive) s := by
  simp only [judgeOffer, h, hx]

theorem judgeActive_some {len : Nat} {s : State} {k : StationNo} {ns : Seq} {c : Candidate} (hk : s.group.number = some k)
    (hns : s.sequencer.ns = some ns) (hc : (biddingFor len s).candidate = some c) :
    judgeActive len s = setJudged .claiming .wellFormed (some (biddingFor len s)) (placeBlock .claim (claimBlock k ns len c) s) := by
  simp only [judgeActive, hc, hk, hns]

theorem judgeActive_none {len : Nat} {s : State} (hc : (biddingFor len s).candidate = none) :
    judgeActive len s = setJudged .watching .wellFormed (some (biddingFor len s)) s := by
  simp only [judgeActive, hc]

/-- R39 to R41: a well-formed OFFER at an ACTIVE station. -/
theorem judgeOffer_active {o : LatchedOffer} {x : OfferHeader} {s : State} {k : StationNo} {ns : Seq}
    (h : offerVerdict o = .wellFormed) (hx : o.header = some x) (hm : s.group.mode = .active) (hk : s.group.number = some k)
    (hns : s.sequencer.ns = some ns) :
    let b := biddingFor x.length s
    let t := judgeOffer o s
    t = { s with port := { s.port with claim := t.port.claim }, sequencer := ⟨some ns, t.sequencer.phase, some .wellFormed, some b⟩ } ∧
      (b.candidate = none → t.sequencer.phase = .watching ∧ t.port.claim = s.port.claim) ∧
      (∀ d, b.candidate = some d → t.sequencer.phase = .claiming ∧ t.port.claim = some ⟨claimBlock k ns x.length d, 0⟩) := by
  have ha : isActive s = true := by simp [isActive, hm]
  dsimp only
  rw [judgeOffer_wellFormed h hx, if_pos ha]
  cases hc : (biddingFor x.length s).candidate with
  | none =>
    rw [judgeActive_none hc, ← hns]
    exact ⟨rfl, fun _ => ⟨rfl, rfl⟩, nofun⟩
  | some c =>
    rw [judgeActive_some hk hns hc]
    refine ⟨?_, nofun, ?_⟩
    · rw [← hns]
      rfl
    · rintro d hd
      cases hd
      exact ⟨rfl, rfl⟩

/-- Settles O38: an OFFER by its sender, its form, the mode and the candidate. -/
theorem offerIsLatchedAndJudged : Obligations.OfferIsLatchedAndJudged := by
  refine ⟨fun s blk hb ho => ⟨offerVerdict_malformed _, fun hv => ?_, fun hv hm => ?_, fun hv hm k ns hk hns => ?_⟩,
    fun s blk hb ho => exec_offer_open hb ho, fun s blk h6 => ?_, fun s blk hst => ?_⟩
  · rw [exec_offer_closed hb ho, judgeOffer_malformed hv]
    rfl
  · obtain ⟨x, hx, -⟩ := offerHeader_of_wellFormed hv
    have hna : ¬isActive (offerLatched blk s) = true := by
      show ¬isActive s = true
      simp [isActive, hm]
    rw [exec_offer_closed hb ho, judgeOffer_wellFormed hv hx, if_neg hna]
    exact ⟨_, _, rfl, rfl, rfl, rfl, rfl, rfl, rfl, rfl⟩
  · obtain ⟨x, hx, hl⟩ := offerHeader_of_wellFormed hv
    obtain ⟨ht, hnone, hsome⟩ := judgeOffer_active (s := offerLatched blk s) hv hx hm hk hns
    have hbid : biddingFor x.length (offerLatched blk s) = biddingFor (bodyWord blk.body 0) s := by rw [hl]; rfl
    rw [hbid] at ht hnone hsome
    rw [hl] at hsome
    rw [exec_offer_closed hb ho]
    refine ⟨_, _, rfl, rfl, ?_, ?_, ?_, ?_, ?_, ?_, ?_, ?_, ?_, ?_, hnone, hsome⟩ <;> rw [ht] <;> rfl
  · have h6' : blk.sender = allStationsAddress := BitVec.eq_of_toNat_eq h6
    simp only [exec, execOffer, if_pos h6']
  · have hstation : ∀ a : Address, (stationOfAddress a).isSome = true → a ≠ allStationsAddress ∧ (a != bridgeAddress) = true := by decide
    obtain ⟨h6, h7⟩ := hstation blk.sender hst
    simp only [exec, execOffer, if_neg h6, if_pos h7]
    rfl

end Sys2Proof.Machine

namespace Sys2Proof.Machine

/-! ### CLAIM (R22, R42 to R46) -/

/-- R44: a CLAIM is admitted from a station, with a body of four bytes. -/
theorem claimAdmitted_iff (blk : BusBlock) :
    claimAdmitted blk = true ↔ (stationOfAddress blk.sender).isSome = true ∧ blk.body.length = 4 := by
  have hstation : ∀ a : Address, (a != bridgeAddress && a != allStationsAddress) = (stationOfAddress a).isSome := by decide
  rw [claimAdmitted, hstation, Bool.and_eq_true, beq_iff_eq]

theorem adoptNs_eq (q : Seq) (s : State) :
    adoptNs q s = { s with
      sequencer.ns := some (q + 1)
      status.live.station.nsAdoptions :=
        if s.sequencer.ns = some q then s.status.live.station.nsAdoptions else satInc s.status.live.station.nsAdoptions } := by
  unfold adoptNs
  dsimp only
  by_cases h : s.sequencer.ns = some q
  · simp only [if_pos h]
  · simp only [if_neg h]
    rfl

/-- R42, R46: a claim slot closed by another station's CLAIM. -/
theorem closeClaimed_eq (s : State) :
    closeClaimed s = { s with
      port := { s.port with slotOpen := false, claim := none, latch := none }
      sequencer := ⟨s.sequencer.ns, .idle, none, none⟩
      status.live.station.claimsLost :=
        if s.sequencer.phase = .claiming then s.status.live.station.claimsLost + 1 else s.status.live.station.claimsLost } := by
  unfold closeClaimed countLost
  by_cases h : s.sequencer.phase = .claiming
  · simp only [if_pos h]
    rfl
  · simp only [if_neg h]
    rfl

/-- R45: the latched fragment handed to the pair its CLAIM named, or lost when that pair has departed. -/
theorem deliverWon_eq {p : Pair} {q : Seq} {s : State} {o : LatchedOffer} {h : OfferHeader} (ho : s.port.latch = some o)
    (hh : o.header = some h) :
    deliverWon p q s =
      if inService (line s p) then modLine p (appendFragment ⟨q, h.length, h.startMark, h.endMark, o.payload⟩) s
      else countStation (fun c => { c with claimedLost := satInc c.claimedLost }) s := by
  simp only [deliverWon, ho, Option.bind_some, wonFragment, hh, Option.map_some]

/-- R43, R45, R50: the station's own CLAIM, admitted and completed in its slot. -/
theorem exec_claim_won {s : State} {x : OnLine} (hm : s.group.mode = .active ∨ s.group.mode = .conflict) (hx : s.port.onLine = some x)
    (hk : x.kind = .claim) (ha : claimAdmitted x.block = true) (ho : s.port.slotOpen = true) :
    exec (.claim .own) s = .next (closeWon (pairOfBits x.block.pair) (bodySeq x.block.body 0)
      (adoptNs (bodySeq x.block.body 0) (blockEnded { s with port := { s.port with onLine := none } }))) := by
  have hns : claimNs true (bodySeq x.block.body 0) (blockEnded { s with port := { s.port with onLine := none } }) =
      adoptNs (bodySeq x.block.body 0) (blockEnded { s with port := { s.port with onLine := none } }) := by
    unfold claimNs
    rcases hm with hm | hm <;> simp only [blockEnded, hm, if_true]
  have hopen : (adoptNs (bodySeq x.block.body 0) (blockEnded { s with port := { s.port with onLine := none } })).port.slotOpen = true := by
    rw [adoptNs_eq]
    exact ho
  simp only [exec, execClaim, observe_own hx hk, ha, hns, hopen, Bool.not_true, Bool.false_eq_true, if_false, if_true]

theorem slotClosed_eq (s : State) :
    slotClosed s = { s with
      port := { s.port with slotOpen := false, claim := none, latch := none }
      sequencer := ⟨s.sequencer.ns, .idle, none, none⟩ } := rfl

theorem closeWon_eq {p : Pair} {q : Seq} {s : State} {o : LatchedOffer} {h : OfferHeader} (ho : s.port.latch = some o)
    (hh : o.header = some h) :
    closeWon p q s =
      slotClosed (if inService (line s p) then
        modLine p (appendFragment ⟨q, h.length, h.startMark, h.endMark, o.payload⟩)
          (countStation (fun c => { c with claimsWon := c.claimsWon + 1 }) s)
      else countStation (fun c => { c with claimsWon := c.claimsWon + 1, claimedLost := satInc c.claimedLost }) s) := by
  simp only [closeWon]
  rw [deliverWon_eq (s := countStation _ s) ho hh]
  rfl

theorem backlog_append (u : LineUnit) (f : Fragment) :
    backlog { u with queue := u.queue ++ [f] } = backlog u + f.length + 10 := by
  simp [backlog, Nat.add_assoc]

/-- Settles O39: the own CLAIM by the state of the pair it named. -/
theorem wonClaimAppendsTheFragment : Obligations.WonClaimAppendsTheFragment := by
  intro s x o h hm hx hk hlen hsender hopen hlatch hheader
  have ha : claimAdmitted x.block = true := (claimAdmitted_iff _).2 ⟨hsender, hlen⟩
  set q := bodySeq x.block.body 0
  set p := pairOfBits x.block.pair
  have hexec := exec_claim_won hm hx hk ha hopen
  have hz := adoptNs_eq q (blockEnded { s with port := { s.port with onLine := none } })
  have hzlatch : (adoptNs q (blockEnded { s with port := { s.port with onLine := none } })).port.latch = some o := by
    rw [hz]
    exact hlatch
  have hzline : ∀ r, line (adoptNs q (blockEnded { s with port := { s.port with onLine := none } })) r = line s r := by
    rw [hz]
    exact fun _ => rfl
  rw [closeWon_eq hzlatch hheader, hzline, slotClosed_eq] at hexec
  by_cases hin : inService (line s p) = true
  · rw [if_pos hin, hz] at hexec
    refine ⟨_, hexec, rfl, rfl, fun _ => ⟨?_, ?_, rfl⟩, fun hout => by simp [hin] at hout, fun r hr => ?_, rfl, rfl, rfl, rfl, rfl⟩
    · exact line_modLine_same p _ _
    · exact (congrArg backlog (line_modLine_same p _ _)).trans (backlog_append (line s p) _)
    · exact line_modLine_other _ _ hr
  · rw [if_neg hin, hz] at hexec
    exact ⟨_, hexec, rfl, rfl, fun h => absurd h hin, fun _ => ⟨rfl, rfl⟩, fun r hr => rfl, rfl, rfl, rfl, rfl, rfl⟩

/-- R42, R46: an admitted CLAIM of another station ends its block, moves NS or the join NS, and closes an open slot. -/
theorem exec_claim_heard {s : State} {blk : BusBlock} (hl : ownOnLine s.port .claim = false) (ha : claimAdmitted blk = true) :
    exec (.claim (.heard blk)) s = .next (if s.port.slotOpen then closeClaimed (claimNs false (bodySeq blk.body 0) (blockEnded s))
      else claimNs false (bodySeq blk.body 0) (blockEnded s)) := by
  obtain ⟨ns, c, j, -, hns⟩ := BusOps.claimNs_parts false (bodySeq blk.body 0) (blockEnded s)
  have hopen : (claimNs false (bodySeq blk.body 0) (blockEnded s)).port.slotOpen = s.port.slotOpen := by rw [hns]; rfl
  have hline : ownOnLine (claimNs false (bodySeq blk.body 0) (blockEnded s)).port .claim = false := by rw [hns]; exact hl
  simp only [exec, execClaim, observe, if_true, ha, Bool.not_true, Bool.false_eq_true, if_false, hopen, hline]
  cases s.port.slotOpen <;> rfl

/-- Settles O40: a CLAIM of another station by its admission and the mode. -/
theorem claimOfAnotherStationMovesNs : Obligations.ClaimOfAnotherStationMovesNs := by
  intro s blk hl
  refine ⟨claimAdmitted_iff blk, fun ha hm => ?_, fun ha hm v hv => ?_, fun ha hm hj => ?_, fun ha => ?_⟩
  · have hns : claimNs false (bodySeq blk.body 0) (blockEnded s) = adoptNs (bodySeq blk.body 0) (blockEnded s) := by
      simp only [claimNs, blockEnded_group, hm]
    rw [exec_claim_heard hl ha, hns, adoptNs_eq]
    cases s.port.slotOpen with
    | false => rfl
    | true =>
      rw [if_pos rfl, closeClaimed_eq]
      rfl
  · have hns : claimNs false (bodySeq blk.body 0) (blockEnded s) =
        { blockEnded s with group.join.values := some ⟨bodySeq blk.body 0 + 1, v.e⟩ } := by
      simp only [claimNs, blockEnded_group, hm, joinNs, modJoin, hv, Option.map_some]
    rw [exec_claim_heard hl ha, hns]
    cases s.port.slotOpen with
    | false => rfl
    | true =>
      rw [if_pos rfl, closeClaimed_eq]
      rfl
  · have hns : claimNs false (bodySeq blk.body 0) (blockEnded s) = blockEnded s := by
      unfold claimNs
      split
      · next h => exact absurd h hm
      · rfl
      · next h => exact joinNs_none _ _ (hj.resolve_left fun hne => hne h)
      · rfl
    rw [exec_claim_heard hl ha, hns]
    cases s.port.slotOpen with
    | false => rfl
    | true =>
      rw [if_pos rfl, closeClaimed_eq]
      rfl
  · simp only [exec, execClaim, observe, if_true, ha, Bool.not_false]

end Sys2Proof.Machine

namespace Sys2Proof.Machine

/-! ### RELEASE, SKIP and REBASE by the mode of the station (R22, R144 to R149) -/

/-- What the blocks that move E have in common: an admitted one acts at an ACTIVE station and moves the join E in LISTENING. -/
def observedMove (k : SlotKind) (admitted : BusBlock → Bool) (act : Bool → BusBlock → State → State) (o : Observed) (s : State) : State :=
  match observe k o s with
  | none => s
  | some (own, blk, s) =>
    if !admitted blk then s
    else
      match s.group.mode with
      | .active => act own blk s
      | .listening => joinE (valueSeq blk.value) s
      | _ => s

theorem exec_release_eq (o : Observed) (s : State) :
    exec (.release o) s = .next (observedMove .release releaseAdmitted releaseActive o s) := rfl

theorem exec_skip_eq (o : Observed) (s : State) : exec (.skip o) s = .next (observedMove .skip stationSent skipActive o s) := rfl

theorem exec_rebase_eq (o : Observed) (s : State) : exec (.rebase o) s = .next (observedMove .rebase stationSent rebaseActive o s) := rfl

section
variable {k : SlotKind} {admitted : BusBlock → Bool} {act : Bool → BusBlock → State → State} {blk : BusBlock} {s : State} {x : OnLine}

theorem observedMove_refused (hk : k ≠ .claim) (ha : admitted blk = false) :
    observedMove k admitted act (.heard blk) s = closeByOther (blockEnded s) := by
  simp only [observedMove, observe_heard hk, ha, Bool.not_false, if_true]

theorem observedMove_active (hk : k ≠ .claim) (ha : admitted blk = true) (hm : s.group.mode = .active) :
    observedMove k admitted act (.heard blk) s = act false blk (closeByOther (blockEnded s)) := by
  simp only [observedMove, observe_heard hk, ha, Bool.not_true, Bool.false_eq_true, if_false, closeByOther_group, blockEnded_group, hm]

theorem observedMove_own (hx : s.port.onLine = some x) (hk : x.kind = k) (ha : admitted x.block = true) (hm : s.group.mode = .active) :
    observedMove k admitted act .own s = act true x.block (blockEnded { s with port := { s.port with onLine := none } }) := by
  simp only [observedMove, observe_own hx hk, ha, Bool.not_true, Bool.false_eq_true, if_false, blockEnded_group, hm]

theorem observedMove_listening {v : JoinValues} (hk : k ≠ .claim) (ha : admitted blk = true) (hm : s.group.mode = .listening)
    (hv : s.group.join.values = some v) :
    observedMove k admitted act (.heard blk) s =
      { closeByOther (blockEnded s) with group := { s.group with join.values := some ⟨v.ns, valueSeq blk.value + 1⟩ } } := by
  have hg : (closeByOther (blockEnded s)).group = s.group := by simp
  simp only [observedMove, observe_heard hk, ha, Bool.not_true, Bool.false_eq_true, if_false, hg, hm, joinE, modJoin, hv, Option.map_some]

theorem joinE_unmoved {t : State} (hm : t.group.mode ≠ .active) (hj : t.group.mode ≠ .listening ∨ t.group.join.values = none) (own : Bool) :
    (match t.group.mode with
      | .active => act own blk t
      | .listening => joinE (valueSeq blk.value) t
      | _ => t) = t := by
  cases hmode : t.group.mode with
  | active => exact absurd hmode hm
  | listening => exact joinE_none _ _ (hj.resolve_left fun h => h hmode)
  | _ => rfl

theorem observedMove_idle (hk : k ≠ .claim) (hm : s.group.mode ≠ .active) (hj : s.group.mode ≠ .listening ∨ s.group.join.values = none) :
    observedMove k admitted act (.heard blk) s = closeByOther (blockEnded s) := by
  simp only [observedMove, observe_heard hk]
  split
  · rfl
  · exact joinE_unmoved (by simpa using hm) (by simpa using hj) false

theorem observedMove_own_idle (hx : s.port.onLine = some x) (hk : x.kind = k) (hm : s.group.mode ≠ .active)
    (hj : s.group.mode ≠ .listening ∨ s.group.join.values = none) :
    observedMove k admitted act .own s = blockEnded { s with port := { s.port with onLine := none } } := by
  simp only [observedMove, observe_own hx hk]
  split
  · rfl
  · exact joinE_unmoved (by simpa using hm) (by simpa using hj) true

end

theorem countEAdoption_eq (q e : Seq) {s : State} (he : s.release.e = some e) :
    countEAdoption q s = { s with
      status.live.station.eAdoptions := if e = q then s.status.live.station.eAdoptions else satInc s.status.live.station.eAdoptions } := by
  by_cases h : e = q
  · rw [countEAdoption, he, if_pos (congrArg some h), if_pos h]
  · rw [countEAdoption, he, if_neg (fun h' => h (Option.some.inj h')), if_neg h]
    rfl

theorem releaseAdmitted_iff (blk : BusBlock) :
    releaseAdmitted blk = true ↔
      (stationOfAddress blk.sender).isSome = true ∧ 3 ≤ blk.body.length ∧ blk.body.length = 3 + bodyWord blk.body 0 := by
  simp only [releaseAdmitted, Bool.and_eq_true, decide_eq_true_eq, beq_iff_eq, and_assoc]

theorem releaseActive_heard (blk : BusBlock) {s : State} {e : Seq} (he : s.release.e = some e) :
    releaseActive false blk s = moveE { s with
      release := { s.release with e := some (valueSeq blk.value + 1), broken := !releaseEndMark blk && releaseBroken blk }
      status.live.station := { s.status.live.station with
        eAdoptions := if e = valueSeq blk.value then s.status.live.station.eAdoptions else satInc s.status.live.station.eAdoptions } } := by
  have hb : (if releaseEndMark blk then false else releaseBroken blk) = (!releaseEndMark blk && releaseBroken blk) := by
    cases releaseEndMark blk <;> rfl
  simp only [releaseActive, Bool.false_eq_true, if_false, countEAdoption_eq _ e he, hb]
  rfl

theorem releaseActive_own (blk : BusBlock) {s : State} {e : Seq} (he : s.release.e = some e) :
    releaseActive true blk s = moveE { s with
      holdQueue.entries := s.holdQueue.entries.filter (fun h => h.seq != valueSeq blk.value)
      release := { s.release with e := some (valueSeq blk.value + 1), broken := !releaseEndMark blk && releaseBroken blk }
      status.live.station := { s.status.live.station with
        releasesSent := s.status.live.station.releasesSent + 1
        eAdoptions := if e = valueSeq blk.value then s.status.live.station.eAdoptions else satInc s.status.live.station.eAdoptions } } := by
  have hb : (if releaseEndMark blk then false else releaseBroken blk) = (!releaseEndMark blk && releaseBroken blk) := by
    cases releaseEndMark blk <;> rfl
  simp only [releaseActive, if_true, hb]
  rw [countEAdoption_eq _ e (by exact he)]
  rfl

/-- Settles O41: a RELEASE by its admission, the mode and its sender. -/
theorem releaseMovesE : Obligations.ReleaseMovesE := by
  intro s blk e
  simp only [exec_release_eq]
  refine ⟨releaseAdmitted_iff blk, fun ha hm he => ?_, fun x ha hm he hx hk hb => ?_, fun v ha hm hv => ?_,
    fun hm hj => ⟨?_, fun x hx hk => ?_⟩, fun ha => ?_⟩
  · rw [observedMove_active (k := .release) nofun ha hm, releaseActive_heard (e := e) blk (by simpa using he)]
  · subst hb
    rw [observedMove_own hx hk ha hm, releaseActive_own (e := e) x.block (by exact he)]
    rfl
  · rw [observedMove_listening (k := .release) nofun ha hm hv, closeByOther_group]
    rfl
  · rw [observedMove_idle (k := .release) nofun hm hj]
  · rw [observedMove_own_idle hx hk hm hj]
    rfl
  · rw [observedMove_refused (k := .release) nofun ha]

theorem skipActive_eq (own : Bool) (blk : BusBlock) {s : State} {e : Seq} (he : s.release.e = some e) :
    skipActive own blk s = moveE { s with
      release := { s.release with e := some (valueSeq blk.value + 1), broken := true }
      status.live.station := { s.status.live.station with
        skipsSent := if own then satInc s.status.live.station.skipsSent else s.status.live.station.skipsSent
        skipsObserved := if own then s.status.live.station.skipsObserved else satInc s.status.live.station.skipsObserved
        eAdoptions := if e = valueSeq blk.value then s.status.live.station.eAdoptions else satInc s.status.live.station.eAdoptions } } := by
  cases own <;> simp only [skipActive, Bool.false_eq_true, if_false, if_true] <;>
    rw [countEAdoption_eq _ e (by exact he)] <;> rfl

theorem rebaseActive_eq (own : Bool) (blk : BusBlock) (s : State) :
    rebaseActive own blk s = moveE { s with
      holdQueue.runaway := 0
      release := { s.release with e := some (valueSeq blk.value + 1), broken := true }
      status.live.station := { s.status.live.station with
        rebasesSent := if own then satInc s.status.live.station.rebasesSent else s.status.live.station.rebasesSent
        rebasesObserved := if own then s.status.live.station.rebasesObserved else satInc s.status.live.station.rebasesObserved } } := by
  cases own <;> rfl

/-- Settles O42: a SKIP and a REBASE by admission and mode. -/
theorem skipAndRebaseMoveE : Obligations.SkipAndRebaseMoveE := by
  intro s blk e
  simp only [exec_skip_eq, exec_rebase_eq]
  refine ⟨fun ha hm he => ⟨?_, ?_, fun x hx hb => ⟨fun hk => ?_, fun hk => ?_⟩⟩, fun v ha hm hv => ⟨?_, ?_⟩,
    fun hm hj => ⟨?_, ?_, fun x hx => ⟨fun hk => ?_, fun hk => ?_⟩⟩, fun ha => ⟨?_, ?_⟩⟩
  · rw [observedMove_active (k := .skip) nofun (show stationSent blk = true from ha) hm, skipActive_eq (e := e) false blk (by simpa using he)]
    rfl
  · rw [observedMove_active (k := .rebase) nofun (show stationSent blk = true from ha) hm, rebaseActive_eq]
    rfl
  · subst hb
    rw [observedMove_own hx hk (show stationSent x.block = true from ha) hm, skipActive_eq (e := e) true x.block (by exact he)]
    rfl
  · subst hb
    rw [observedMove_own hx hk (show stationSent x.block = true from ha) hm, rebaseActive_eq]
    rfl
  · rw [observedMove_listening (k := .skip) nofun (show stationSent blk = true from ha) hm hv, closeByOther_group]
    rfl
  · rw [observedMove_listening (k := .rebase) nofun (show stationSent blk = true from ha) hm hv, closeByOther_group]
    rfl
  · rw [observedMove_idle (k := .skip) nofun hm hj]
  · rw [observedMove_idle (k := .rebase) nofun hm hj]
  · rw [observedMove_own_idle hx hk hm hj]
    rfl
  · rw [observedMove_own_idle hx hk hm hj]
    rfl
  · rw [observedMove_refused (k := .skip) nofun (show stationSent blk = false from ha)]
  · rw [observedMove_refused (k := .rebase) nofun (show stationSent blk = false from ha)]

end Sys2Proof.Machine

namespace Sys2Proof.Machine

/-! ### HOLD (R144, R152, R159 to R161, R163) -/

/-- R159, R180: a HOLD names on, from the bridge, with a body that begins 01h. -/
theorem holdNamed_on (blk : BusBlock) : holdNamed blk = some true ↔ blk.sender = bridgeAddress ∧ blk.body.head? = some 1 := by
  unfold holdNamed
  by_cases hs : blk.sender = bridgeAddress
  · cases hb : blk.body.head? with
    | none => simp [hs]
    | some b =>
      simp only [hs, bne_self_eq_false, Bool.false_eq_true, if_false, Option.some.injEq, true_and]
      split
      · next h => simp [h]
      · next h => split <;> simp_all
  · simp [hs]

/-- R159, R180: a HOLD names off, from the bridge, with a body that begins 00h. -/
theorem holdNamed_off (blk : BusBlock) : holdNamed blk = some false ↔ blk.sender = bridgeAddress ∧ blk.body.head? = some 0 := by
  unfold holdNamed
  by_cases hs : blk.sender = bridgeAddress
  · cases hb : blk.body.head? with
    | none => simp [hs]
    | some b =>
      simp only [hs, bne_self_eq_false, Bool.false_eq_true, if_false, Option.some.injEq, true_and]
      split
      · next h => simp [h]
      · next h => split <;> simp_all
  · simp [hs]

/-- R160: the skip timer as HOLD turns on. -/
def frozenSkip : SkipTimer → SkipTimer
  | .running left => .frozen left
  | .expired => .frozen 0
  | t => t

/-- R152, R160: the station as its skip timer resumes at the end of HOLD. -/
def resumedSkip (k : StationNo) (e : Seq) (x : SkipTimer) (v : State) : State :=
  match x with
  | .frozen 0 => placeBlock .skip ⟨seqValue e, stationAddress k, 0, []⟩ { v with release.skipTimer := .expired }
  | .frozen m => { v with release.skipTimer := .running m }
  | _ => v

/-- R159, R161: HOLD off, its timer stopped. -/
def unheld (v : State) : State := { v with release := { v.release with hold := false, holdTimer := .stopped } }

section
variable {s : State}

theorem applyHoldOn_begins (hm : s.group.mode = .active) (hh : s.release.hold = false) :
    applyHoldOn s = { withdrawBlock .skip (withdrawBlock .release s) with
      release := { s.release with
        hold := true, holdTimer := .running ((config s).holdLimit * 1000), skipTimer := frozenSkip s.release.skipTimer } } := by
  have hc : (isActive s && !s.release.hold) = true := by simp [isActive, hm, hh]
  simp only [applyHoldOn, if_pos hc]
  simp only [holdTurnsOn, withdrawBlock_release]
  cases s.release.skipTimer <;> rfl

theorem applyHoldOn_goes_on (h : s.group.mode ≠ .active ∨ s.release.hold = true) :
    applyHoldOn s = { s with release := { s.release with hold := true, holdTimer := .running ((config s).holdLimit * 1000) } } := by
  have hc : ¬(isActive s && !s.release.hold) = true := by
    rcases h with h | h <;> simp [isActive, h]
  simp only [applyHoldOn, if_neg hc, Config.ms]

theorem applyHoldOn_again (h : s.release.hold = true) :
    applyHoldOn s = { s with release := { s.release with holdTimer := .running ((config s).holdLimit * 1000) } } := by
  rw [applyHoldOn_goes_on (.inr h), ← h]

theorem applyHoldOff_active {k : StationNo} {e : Seq} (hm : s.group.mode = .active) (hk : s.group.number = some k)
    (he : s.release.e = some e) :
    applyHoldOff s = evidenceSkip (resumedSkip k e s.release.skipTimer (tryRelease (unheld s))) := by
  have hrel : (tryRelease (unheld s)).release.skipTimer = s.release.skipTimer := by rw [tryRelease_release]; rfl
  have hnum : (tryRelease (unheld s)).group.number = some k := by rw [tryRelease_group]; exact hk
  have hE : (tryRelease (unheld s)).release.e = some e := by rw [tryRelease_release]; exact he
  have hact : isActive s = true := by simp [isActive, hm]
  simp only [applyHoldOff, if_pos hact, holdTurnsOff]
  refine congrArg evidenceSkip ?_
  show (match (tryRelease (unheld s)).release.skipTimer with
    | .frozen 0 => placeSkip { tryRelease (unheld s) with release.skipTimer := .expired }
    | .frozen left => { tryRelease (unheld s) with release.skipTimer := .running left }
    | _ => tryRelease (unheld s)) = _
  rw [hrel, placeSkip_eq (s := { tryRelease (unheld s) with release.skipTimer := .expired }) hnum hE]
  cases s.release.skipTimer with
  | frozen n => cases n <;> rfl
  | _ => rfl

theorem applyHoldOff_inactive (hm : s.group.mode ≠ .active) : applyHoldOff s = unheld s := by
  have hact : ¬isActive s = true := by simp [isActive, hm]
  simp only [applyHoldOff, if_neg hact]
  rfl

theorem exec_holdOn_taken {blk : BusBlock} (hm : s.group.mode = .listening ∨ s.group.mode = .active)
    (hs : blk.sender = bridgeAddress) (hb : blk.body.head? = some 1) :
    exec (.holdOn blk) s = .next (applyHoldOn (closeByOther (blockEnded s))) := by
  have hc : (hearsHold (closeByOther (blockEnded s)) && holdNamed blk == some true) = true := by
    rw [(holdNamed_on blk).2 ⟨hs, hb⟩]
    rcases hm with hm | hm <;> simp [hearsHold, hm]
  simp only [exec, execHoldOn, if_pos hc]

theorem exec_holdOff_taken {blk : BusBlock} (hm : s.group.mode = .listening ∨ s.group.mode = .active)
    (hs : blk.sender = bridgeAddress) (hb : blk.body.head? = some 0) (hh : s.release.hold = true) :
    exec (.holdOff blk) s = .next (applyHoldOff (closeByOther (blockEnded s))) := by
  have hc : (hearsHold (closeByOther (blockEnded s)) && holdNamed blk == some false &&
      (closeByOther (blockEnded s)).release.hold) = true := by
    rw [(holdNamed_off blk).2 ⟨hs, hb⟩]
    rcases hm with hm | hm <;> simp [hearsHold, hm, hh]
  simp only [exec, execHoldOff, if_pos hc]

theorem exec_holdOff_already {blk : BusBlock} (hh : s.release.hold = false) :
    exec (.holdOff blk) s = .next (closeByOther (blockEnded s)) := by
  simp [exec, execHoldOff, hh]

theorem exec_hold_refused {blk : BusBlock} (h : blk.sender ≠ bridgeAddress ∨ (blk.body.head? ≠ some 1 ∧ blk.body.head? ≠ some 0) ∨
    (s.group.mode ≠ .listening ∧ s.group.mode ≠ .active)) :
    exec (.holdOn blk) s = .next (closeByOther (blockEnded s)) ∧ exec (.holdOff blk) s = .next (closeByOther (blockEnded s)) := by
  have hon : ¬(hearsHold (closeByOther (blockEnded s)) = true ∧ holdNamed blk = some true) := by
    rw [holdNamed_on]
    rintro ⟨hm, hs, hb⟩
    rcases h with h | ⟨h, -⟩ | ⟨h, h'⟩
    · exact h hs
    · exact h hb
    · simp [hearsHold, h, h'] at hm
  have hoff : ¬(hearsHold (closeByOther (blockEnded s)) = true ∧ holdNamed blk = some false) := by
    rw [holdNamed_off]
    rintro ⟨hm, hs, hb⟩
    rcases h with h | ⟨-, h⟩ | ⟨h, h'⟩
    · exact h hs
    · exact h hb
    · simp [hearsHold, h, h'] at hm
  refine ⟨?_, ?_⟩
  · refine congrArg Host.Outcome.next (if_neg ?_)
    rwa [Bool.and_eq_true, beq_iff_eq]
  · refine congrArg Host.Outcome.next (if_neg ?_)
    rw [Bool.and_eq_true, Bool.and_eq_true, beq_iff_eq]
    exact fun hc => hoff hc.1

theorem exec_holdLimit_due (hh : s.release.hold = true) (ht : s.release.holdTimer = .running 0) :
    exec .holdLimitExpiry s = .next (applyHoldOff (countStation (fun c => { c with holdOverruns := satInc c.holdOverruns }) s)) := by
  have hc : (s.release.hold && isDue s.release.holdTimer) = true := by rw [hh, ht]; rfl
  simp only [exec, execHoldLimitExpiry, if_pos hc]

end

/-- Settles O43: HOLD on and off by the mode and by the skip timer it finds. -/
theorem holdTurnsOnAndOff : Obligations.HoldTurnsOnAndOff := by
  refine ⟨fun s blk n k e hm hk he => ?_, fun s blk => ?_⟩
  · have hmode : (closeByOther (blockEnded s)).group.mode = .active := by simpa using hm
    have hrel : (closeByOther (blockEnded s)).release = s.release := by simp
    have hcfg : config (closeByOther (blockEnded s)) = config s := by simp [config]
    refine ⟨fun hb hs hh => ?_, fun hb hs hh => ?_, fun hb hs hh => ?_, fun hb hs hh => exec_holdOff_already hh, fun ht => ?_,
      fun hh ht => ?_⟩
    · rw [exec_holdOn_taken (.inr hm) hs hb, applyHoldOn_begins hmode (by rw [hrel, hh]), hrel, hcfg]
      cases s.release.skipTimer <;> rfl
    · rw [exec_holdOn_taken (.inr hm) hs hb, applyHoldOn_again (by rw [hrel, hh]), hrel, hcfg]
    · rw [exec_holdOff_taken (.inr hm) hs hb hh,
        applyHoldOff_active (k := k) (e := e) hmode (by simpa using hk) (by rw [hrel, he]), hrel]
      refine congrArg (fun z => Host.Outcome.next (evidenceSkip z)) ?_
      unfold resumedSkip unheld
      cases s.release.skipTimer with
      | frozen n => cases n <;> rfl
      | _ => rfl
    · simp [exec, execHoldLimitExpiry, ht, isDue]
    · rw [exec_holdLimit_due hh ht, applyHoldOff_active (s := countStation _ s) (k := k) (e := e) hm hk he]
      refine congrArg (fun z => Host.Outcome.next (evidenceSkip z)) ?_
      show resumedSkip k e s.release.skipTimer _ = _
      unfold resumedSkip unheld
      cases s.release.skipTimer with
      | frozen n => cases n <;> rfl
      | _ => rfl
  · have hrel : (closeByOther (blockEnded s)).release = s.release := by simp
    have hcfg : config (closeByOther (blockEnded s)) = config s := by simp [config]
    refine ⟨fun hm hs => ?_, fun hm hh ht => ?_, fun h => exec_hold_refused h⟩
    · have hmode : (closeByOther (blockEnded s)).group.mode ≠ .active := by simp [hm]
      refine ⟨fun hb => ?_, fun hb hh => ?_, fun hb hh => exec_holdOff_already hh⟩
      · rw [exec_holdOn_taken (.inl hm) hs hb, applyHoldOn_goes_on (.inl hmode), hrel, hcfg]
      · rw [exec_holdOff_taken (.inl hm) hs hb hh, applyHoldOff_inactive hmode, unheld, hrel]
    · rw [exec_holdLimit_due hh ht, applyHoldOff_inactive (by simp [hm])]
      rfl

end Sys2Proof.Machine

namespace Sys2Proof.Machine

/-! ### The fields of a REPLY (R181) -/

/-- A number in `width` bytes, most significant first. -/
def beBytes (width n : Nat) : List Byte := (List.range width).map (fun i => BitVec.ofNat 8 (n / 256 ^ (width - 1 - i)))

/-- A flag in one byte. -/
def beFlag (b : Bool) : List Byte := [if b then 1 else 0]

/-- A two-byte number, all ones for none. -/
def beOrNone (x : Option Nat) : List Byte := match x with | some n => beBytes 2 n | none => [0xFF, 0xFF]

/-- A field with the byte before it that says whether it holds a value. -/
def beGiven (width : Nat) (x : Option Nat) : List Byte :=
  match x with
  | some n => 1 :: beBytes width n
  | none => 0 :: List.replicate width 0xFF

theorem beBytes_one (n : Nat) : beBytes 1 n = byte1 n := by simp [beBytes, byte1]
theorem beBytes_two (n : Nat) : beBytes 2 n = byte2 n := by simp [beBytes, byte2, List.range, List.range.loop]
theorem beBytes_three (n : Nat) : beBytes 3 n = byte3 n := by simp [beBytes, byte3, byte2, List.range, List.range.loop]
theorem beBytes_four (n : Nat) : beBytes 4 n = byte4 n := by simp [beBytes, byte4, byte3, byte2, List.range, List.range.loop]
theorem beBytes_five (n : Nat) : beBytes 5 n = byte5 n := by simp [beBytes, byte5, byte4, byte3, byte2, List.range, List.range.loop]

theorem beFlag_eq (b : Bool) : beFlag b = [flagByte b] := rfl

theorem beOrNone_eq (x : Option Nat) : beOrNone x = orNone2 x := by
  cases x with
  | none => rfl
  | some n => exact beBytes_two n

theorem beGiven_eq {width : Nat} {enc : Nat → List Byte} (h : ∀ n, beBytes width n = enc n) (x : Option Nat) :
    beGiven width x = tagged width enc x := by
  cases x with
  | none => rfl
  | some n => exact congrArg (List.cons 1) (h n)

/-! ### The contents of the REPLYs (R168, R169, R171, R172) -/

/-- R168: IDENTITY. -/
theorem identityContents_eq {s : State} {k : StationNo} (hk : s.group.number = some k) :
    identityContents s =
      beBytes 2 412 ++ beBytes 1 1 ++ beBytes 1 (stationIndex k) ++ beBytes 1 (match (config s).role with | .farm => 1 | .cabinet => 2) ++
        beFlag s.group.defaultsInUse := by
  simp only [identityContents, hk, beBytes_one, beBytes_two, beFlag_eq, Option.map_some, Option.getD_some]
  cases (config s).role <;> rfl

theorem filter_peers {s : State} {k : StationNo} (hk : s.group.number = some k) :
    allStations.filter (fun j => some j != s.group.number) = allStations.filter (fun j => j != k) := by
  rw [hk]
  exact List.filter_congr fun j _ => by simp [bne]

theorem presentPeers_eq {s : State} {k : StationNo} (hk : s.group.number = some k) :
    presentPeers s = ((allStations.filter (fun j => j != k)).filter (fun j => (stationGet s.group.table j).present)).map
      (fun j => stationGet s.group.table j) := by
  rw [presentPeers, filter_peers hk, List.filter_map]
  rfl

/-- R31, R168: the group send capacity. -/
theorem groupCapacity_eq {s : State} {k : StationNo} (hk : s.group.number = some k) :
    groupCapacity s = ((allPairs.filter (fun p => (line s p).state == .service)).map (fun p => (line s p).sendRate)).sum +
      (((allStations.filter (fun j => j != k)).filter (fun j => (stationGet s.group.table j).present)).map
        (fun j => (stationGet s.group.table j).capacity)).sum := by
  rw [groupCapacity, ownCapacity, markedLines_eq, presentPeers_eq hk, List.map_map, List.map_map]
  rfl

theorem modeCode_eq (m : Mode) : byte1 (modeCode m) = beBytes 1
    (match m with | .waiting => 0 | .reading => 1 | .listening => 2 | .active => 3 | .spare => 4 | .conflict => 5) := by
  rw [beBytes_one]
  cases m <;> rfl

theorem headContents_eq (s : State) : headContents s =
    (match s.holdQueue.entries with
      | [] => beOrNone none ++ beBytes 1 255 ++ beGiven 4 none
      | h :: _ => beBytes 2 h.seq.toNat ++ beBytes 1 (pairIndex h.pair) ++ beGiven 4 (some (s.timeBase - h.stamp).toNat)) := by
  simp only [headContents, beOrNone_eq, beBytes_one, beBytes_two, beGiven_eq beBytes_four]
  cases s.holdQueue.entries <;> rfl

theorem horizonBytes_eq (h : Horizon) : horizonBytes h =
    (match h with
      | .openEnded => beBytes 1 1 ++ beBytes 2 0
      | .bound x => beBytes 1 2 ++ beBytes 2 x.toNat
      | .unknown => beBytes 1 3 ++ beBytes 2 0) := by
  cases h <;> simp only [beBytes_one, beBytes_two] <;> rfl

theorem peerContents_eq (t : PeerEntry) :
    peerContents t = beFlag t.present ++ beBytes 1 t.heard ++ beBytes 1 t.missed ++ beBytes 2 t.capacity := by
  simp only [beBytes_one, beBytes_two]
  rfl

/-- R168: STATION. -/
theorem stationContents_eq {s : State} {k : StationNo} (hk : s.group.number = some k) :
    let peers := allStations.filter (fun j => j != k)
    let serving := allPairs.filter (fun p => (line s p).state == .service)
    stationContents s =
      beBytes 1
          (match s.group.mode with
          | .waiting => 0 | .reading => 1 | .listening => 2 | .active => 3 | .spare => 4 | .conflict => 5) ++
        beOrNone (s.sequencer.ns.map (·.toNat)) ++ beOrNone (s.release.e.map (·.toNat)) ++ beFlag s.release.broken ++
        beFlag s.release.hold ++ beBytes 1 (poolUsed s) ++ beBytes 1 s.holdQueue.entries.length ++
        (match s.holdQueue.entries with
          | [] => beOrNone none ++ beBytes 1 255 ++ beGiven 4 none
          | h :: _ => beBytes 2 h.seq.toNat ++ beBytes 1 (pairIndex h.pair) ++ beGiven 4 (some (s.timeBase - h.stamp).toNat)) ++
        (match ownHorizon s with
          | .openEnded => beBytes 1 1 ++ beBytes 2 0
          | .bound x => beBytes 1 2 ++ beBytes 2 x.toNat
          | .unknown => beBytes 1 3 ++ beBytes 2 0) ++
        (peers.map (fun j =>
          let t := stationGet s.group.table j
          beFlag t.present ++ beBytes 1 t.heard ++ beBytes 1 t.missed ++ beBytes 2 t.capacity)).flatten ++
        beBytes 2
          ((serving.map (fun p => (line s p).sendRate)).sum +
            ((peers.filter (fun j => (stationGet s.group.table j).present)).map
              (fun j => (stationGet s.group.table j).capacity)).sum) := by
  dsimp only
  rw [stationContents, modeCode_eq, headContents_eq, horizonBytes_eq, filter_peers hk, groupCapacity_eq hk]
  simp only [← peerContents_eq, ← beOrNone_eq, ← beBytes_one, ← beBytes_two]
  rfl

/-- R169: PAIR. -/
theorem pairContents_eq (u : LineUnit) :
    pairContents u =
      beBytes 1
          (match u.state with
          | .off => 0 | .quiet => 1 | .detect => 2 | .train => 3 | .qualify => 4 | .service => 5 | .windDown => 6) ++
        beFlag u.los ++ beBytes 2 u.sendRate ++ beOrNone u.svc.pendingTarget ++ beBytes 2 u.recvRate ++ beBytes 2 u.trainedSend ++
        beBytes 2 u.trainedRecv ++ beBytes 2 u.delay ++ beBytes 3 u.farCeiling ++ beBytes 1 u.k ++ beBytes 1 u.queue.length ++
        beBytes 2 (u.queue.map (fun f => f.length + 10)).sum ++ beOrNone (u.lastReceived.map (·.toNat)) ++ beBytes 2 u.margin := by
  have hstate : byte1 (lineStateCode u.state) = byte1
      (match u.state with
      | .off => 0 | .quiet => 1 | .detect => 2 | .train => 3 | .qualify => 4 | .service => 5 | .windDown => 6) := by
    cases u.state <;> rfl
  simp only [pairContents, beBytes_one, beBytes_two, beBytes_three, beOrNone_eq, beFlag_eq, hstate, backlog]

/-- R175: the counters of a pair, after what stands before them. -/
theorem pairGroup_eq (head : List Byte) (x : PairCounters) :
    head ++ pairGroup x =
      head ++ beBytes 4 x.fragsSent.toNat ++ beBytes 5 x.bytesSent.toNat ++ beBytes 4 x.fragsReceived.toNat ++
        beBytes 5 x.bytesReceived.toNat ++ beBytes 2 x.badFrames.toNat ++ beBytes 2 x.lostFrames.toNat ++
        beBytes 4 x.idleFrames.toNat ++ beBytes 2 x.erroredPeriods.toNat ++ beBytes 2 x.serviceEntries.toNat ++
        beBytes 2 x.downRates.toNat ++ beBytes 2 x.upRates.toNat ++ beBytes 2 x.windDownErrors.toNat ++
        beBytes 2 x.windDownMargin.toNat ++ beBytes 2 x.windDownReRate.toNat ++ beBytes 2 x.windDownFar.toNat ++
        beBytes 2 x.losLosses.toNat ++ beBytes 2 x.leavesReceived.toNat ++ beBytes 2 x.trainingFailures.toNat ++
        beBytes 2 x.qualificationFailures.toNat ++ beBytes 4 x.discarded.toNat := by
  unfold pairGroup
  simp only [satBytes, wrapBytes, byteBytes, beBytes_two, beBytes_four, beBytes_five, List.append_assoc]

/-- R171, R174, R175: COUNTERS, group by group. -/
theorem countersContents_eq (s : State) (p : Pair) :
    let head := beGiven 1 (s.status.snapTag.map (·.toNat)) ++ beGiven 4 (s.status.snapStamp.map (·.toNat))
    let c := s.status.snap.station
    let x := quadGet s.status.snap.pairs p
    let two (c : SatCount) : List Byte := beBytes 2 c.toNat
    let four (c : WrapCount) : List Byte := beBytes 4 c.toNat
    let five (c : ByteCount) : List Byte := beBytes 5 c.toNat
    countersContents 0 s = head ++ two c.badBlocks ++ two c.sendAborts ++ two c.droppedBlocks ∧
      countersContents 1 s =
        head ++ four c.offersSeen ++ two c.malformed ++ four c.unclaimed ++ four c.claimsWon ++ four c.claimsLost ++
          two c.claimedLost ++ two c.nsAdoptions ∧
      countersContents 2 s =
        head ++ four c.accepted ++ two c.duplicates ++ two c.stale ++ two c.farAhead ++ two c.overflows ++
          two c.outOfState ∧
      countersContents 3 s =
        head ++ four c.releasesSent ++ two c.skipsSent ++ two c.skipsObserved ++ two c.rebasesSent ++
          two c.rebasesObserved ++ two c.eAdoptions ++ two c.holdOverruns ∧
      countersContents (4 + pairIndex p) s =
        head ++ four x.fragsSent ++ five x.bytesSent ++ four x.fragsReceived ++ five x.bytesReceived ++
          two x.badFrames ++ two x.lostFrames ++ four x.idleFrames ++ two x.erroredPeriods ++ two x.serviceEntries ++
          two x.downRates ++ two x.upRates ++ two x.windDownErrors ++ two x.windDownMargin ++ two x.windDownReRate ++
          two x.windDownFar ++ two x.losLosses ++ two x.leavesReceived ++ two x.trainingFailures ++
          two x.qualificationFailures ++ four x.discarded := by
  have hhead : ∀ g, countersContents g s = beGiven 1 (s.status.snapTag.map (·.toNat)) ++ beGiven 4 (s.status.snapStamp.map (·.toNat)) ++
      groupBytes g s.status.snap := fun g => by rw [beGiven_eq beBytes_one, beGiven_eq beBytes_four, countersContents]
  have hpair : groupBytes (4 + pairIndex p) s.status.snap = pairGroup (quadGet s.status.snap.pairs p) := by
    cases p <;> simp only [pairIndex, groupBytes, quadGet]
  refine ⟨?_, ?_, ?_, ?_, ?_⟩
  · rw [hhead]
    simp only [groupBytes, stationGroup, satBytes, beBytes_two, List.append_assoc]
  · rw [hhead]
    simp only [groupBytes, stationGroup, satBytes, wrapBytes, beBytes_two, beBytes_four, List.append_assoc]
  · rw [hhead]
    simp only [groupBytes, stationGroup, satBytes, wrapBytes, beBytes_two, beBytes_four, List.append_assoc]
  · rw [hhead]
    simp only [groupBytes, stationGroup, satBytes, wrapBytes, beBytes_two, beBytes_four, List.append_assoc]
  · exact (hhead _).trans ((congrArg _ hpair).trans (pairGroup_eq _ _))

/-- R172: EVENTS. -/
theorem eventsContents_eq (s : State) (i : Nat) :
    eventsContents i s =
      (match s.status.ring[i]? with
        | none => List.replicate 8 0xFF
        | some x =>
          beBytes 1
              (match x.kind with
              | .serviceEntry => 0 | .leftService => 1 | .reRateDone => 2 | .losOn => 3 | .losOff => 4
              | .trainingFail => 5 | .qualificationFail => 6 | .peerPresent => 7 | .peerAbsent => 8) ++
            beBytes 1 x.subject ++ beBytes 2 x.value ++ beBytes 4 x.stamp.toNat) ++
        beBytes 1 s.status.ring.length ++ beFlag s.status.frozen ++ beBytes 2 s.status.missed.toNat := by
  have hkind : ∀ k : EventKind, byte1 (eventCode k) = byte1
      (match k with
      | .serviceEntry => 0 | .leftService => 1 | .reRateDone => 2 | .losOn => 3 | .losOff => 4
      | .trainingFail => 5 | .qualificationFail => 6 | .peerPresent => 7 | .peerAbsent => 8) := by
    intro k
    cases k <;> rfl
  simp only [eventsContents, beBytes_one, beBytes_two, beBytes_four, beFlag_eq, satBytes]
  cases s.status.ring[i]? with
  | none => rfl
  | some x =>
    simp only [eventBytes, hkind]

end Sys2Proof.Machine

namespace Sys2Proof.Machine

/-! ### Taking a QUERY (R13, R167, R170) -/

section
variable {s : State} {blk : BusBlock} {k : StationNo}

theorem queryTaken_iff :
    queryTaken blk s = true ↔ blk.sender = bridgeAddress ∧ 3 ≤ blk.body.length ∧ s.group.mode = .active ∧
      ∃ k, s.group.number = some k ∧ (blk.body.getD 0 0).toNat = stationIndex k := by
  have hme : queryForMe blk s = true ↔ ∃ k, s.group.number = some k ∧ (blk.body.getD 0 0).toNat = stationIndex k := by
    cases hn : s.group.number <;> simp [queryForMe, hn, queryDest, bodyByte]
  simp only [queryTaken, queryWhole, isActive, Bool.and_eq_true, beq_iff_eq, decide_eq_true_eq, hme, and_assoc]

/-- R168: the body of a REPLY, with its contents or with UNKNOWN ITEM. -/
def replyBytes (item arg : Byte) : Option (List Byte) → List Byte
  | some c => [item, arg, 0x00] ++ c
  | none => [item, arg, 0x01]

theorem placeReply_eq (hk : s.group.number = some k) (item : Byte) (c : Option (List Byte)) :
    placeReply item blk c s =
      { s with port := { s.port with reply := some ⟨⟨0, stationAddress k, 0, replyBytes item (queryArg blk) c⟩, 0⟩ } } := by
  simp only [placeReply, hk]
  cases c <;> rfl

/-- R13, R167: a QUERY that is taken, after its block's end. -/
theorem answerQuery_taken (h : queryTaken blk s = true) (item : Byte) (c : State → Option (List Byte)) :
    answerQuery item blk c s = placeReply item blk (c (closeByOther (blockEnded s))) (closeByOther (blockEnded s)) := by
  have ht : queryTaken blk (closeByOther (blockEnded s)) = true := by
    rw [queryTaken_iff] at h ⊢
    simpa using h
  exact if_pos ht

theorem answerQuery_refused (h : ¬queryTaken blk s = true) (item : Byte) (c : State → Option (List Byte)) :
    answerQuery item blk c s = closeByOther (blockEnded s) := by
  have ht : ¬queryTaken blk (closeByOther (blockEnded s)) = true := by
    rw [queryTaken_iff] at h ⊢
    simpa using h
  exact if_neg ht

theorem setFreeze_refused (h : ¬queryTaken blk s = true) (flag : Bool) (item : Byte) :
    setFreeze flag item blk s = closeByOther (blockEnded s) := by
  have ht : ¬queryTaken blk (closeByOther (blockEnded s)) = true := by
    rw [queryTaken_iff] at h ⊢
    simpa using h
  exact if_neg ht

/-- R172: the freeze flag set, and the REPLY from the ring as it stands then. -/
theorem setFreeze_taken (h : queryTaken blk s = true) (flag : Bool) (item : Byte) :
    setFreeze flag item blk s =
      placeReply item blk (some (ringContents (closeByOther (blockEnded s))))
        { closeByOther (blockEnded s) with status.frozen := flag } := by
  have ht : queryTaken blk (closeByOther (blockEnded s)) = true := by
    rw [queryTaken_iff] at h ⊢
    simpa using h
  exact if_pos ht

theorem snapshotTaken_iff :
    snapshotTaken blk s = true ↔ blk.sender = bridgeAddress ∧ 3 ≤ blk.body.length ∧
      ((blk.body.getD 0 0).toNat = 6 ∨ ∃ k, s.group.number = some k ∧ (blk.body.getD 0 0).toNat = stationIndex k) := by
  have hme : queryForMe blk s = true ↔ ∃ k, s.group.number = some k ∧ (blk.body.getD 0 0).toNat = stationIndex k := by
    cases hn : s.group.number <;> simp [queryForMe, hn, queryDest, bodyByte]
  simp only [snapshotTaken, queryWhole, queryDest, bodyByte, Bool.and_eq_true, Bool.or_eq_true, beq_iff_eq, decide_eq_true_eq, hme,
    and_assoc]

/-- R170, R186: a SNAPSHOT that is taken copies every live counter, with the tag and the time base. -/
theorem exec_snapshot_taken (h : snapshotTaken blk s = true) :
    exec (.snapshot blk) s = .next { closeByOther (blockEnded s) with
      status := { (closeByOther (blockEnded s)).status with
        snap := (closeByOther (blockEnded s)).status.live
        snapTag := some (queryArg blk)
        snapStamp := some s.timeBase } } := by
  have ht : snapshotTaken blk (closeByOther (blockEnded s)) = true := by
    rw [snapshotTaken_iff] at h ⊢
    simpa using h
  have hb : (closeByOther (blockEnded s)).timeBase = s.timeBase := by simp
  simp only [exec, execSnapshot, if_pos ht, hb]

theorem exec_snapshot_refused (h : ¬snapshotTaken blk s = true) :
    exec (.snapshot blk) s = .next (closeByOther (blockEnded s)) := by
  have ht : ¬snapshotTaken blk (closeByOther (blockEnded s)) = true := by
    rw [snapshotTaken_iff] at h ⊢
    simpa using h
  simp only [exec, execSnapshot, if_neg ht]

end

theorem toNat_stationIndex (k : StationNo) : (BitVec.ofNat 8 (stationIndex k)).toNat = stationIndex k := by cases k <;> rfl

theorem pairOfArg_pair (p : Pair) : pairOfArg (BitVec.ofNat 8 (pairIndex p)).toNat = some p := by cases p <;> rfl

theorem pairOfArg_none {n : Nat} (h : 4 ≤ n) : pairOfArg n = none := List.getElem?_eq_none h

/-- R167, R181: an ACTIVE station's answers to the QUERYs in its own number. -/
theorem exec_queries_taken (s : State) (k : StationNo) (code arg : Byte) (rest : List Byte) (v : BitVec 20) (i : BitVec 2)
    (hm : s.group.mode = .active) (hk : s.group.number = some k) :
    let blk : BusBlock := ⟨v, bridgeAddress, i, BitVec.ofNat 8 (stationIndex k) :: code :: arg :: rest⟩
    let u := closeByOther (blockEnded s)
    let replied (contents : List Byte) : State :=
      { u with port := { u.port with reply := some ⟨⟨0, stationAddress k, 0, contents⟩, 0⟩ } }
    exec (.identity blk) s = .next (replied (0x01 :: arg :: 0x00 :: identityContents u)) ∧
      exec (.station blk) s = .next (replied (0x02 :: arg :: 0x00 :: stationContents u)) ∧
      (∀ p, arg = BitVec.ofNat 8 (pairIndex p) →
        exec (.pair blk) s = .next (replied (0x03 :: arg :: 0x00 :: pairContents (line u p)))) ∧
      (4 ≤ arg.toNat → exec (.pair blk) s = .next (replied [0x03, arg, 0x01])) ∧
      (arg.toNat < 8 →
        exec (.counters blk) s = .next (replied (0x04 :: arg :: 0x00 :: countersContents arg.toNat u))) ∧
      (8 ≤ arg.toNat → exec (.counters blk) s = .next (replied [0x04, arg, 0x01])) ∧
      (arg.toNat < 16 →
        exec (.events blk) s = .next (replied (0x06 :: arg :: 0x00 :: eventsContents arg.toNat u))) ∧
      (16 ≤ arg.toNat → exec (.events blk) s = .next (replied [0x06, arg, 0x01])) ∧
      exec (.unknownItem blk) s = .next (replied [code, arg, 0x01]) := by
  intro blk u replied
  have ht : queryTaken blk s = true := queryTaken_iff.2 ⟨rfl, by simp [blk], hm, k, hk, toNat_stationIndex k⟩
  have hku : u.group.number = some k := by simpa [u] using hk
  have answered (item : Byte) (c : State → Option (List Byte)) {x : Option (List Byte)} (hx : c u = x) :
      answerQuery item blk c s = replied (replyBytes item arg x) := by
    rw [answerQuery_taken ht, hx]
    exact placeReply_eq (blk := blk) hku item x
  refine ⟨congrArg _ (answered 0x01 (fun t => some (identityContents t)) rfl),
    congrArg _ (answered 0x02 (fun t => some (stationContents t)) rfl), fun p hp => ?_, fun h => ?_,
    fun h => congrArg _ (answered 0x04 (fun t => if arg.toNat < 8 then some (countersContents arg.toNat t) else none) (if_pos h)),
    fun h => congrArg _ (answered 0x04 (fun t => if arg.toNat < 8 then some (countersContents arg.toNat t) else none)
      (if_neg (by omega))),
    fun h => congrArg _ (answered 0x06 (fun t => if arg.toNat < 16 then some (eventsContents arg.toNat t) else none) (if_pos h)),
    fun h => congrArg _ (answered 0x06 (fun t => if arg.toNat < 16 then some (eventsContents arg.toNat t) else none)
      (if_neg (by omega))),
    congrArg _ (answered code (fun _ => none) rfl)⟩
  · refine congrArg Host.Outcome.next (answered 0x03 (fun t => (pairOfArg arg.toNat).map (fun p => pairContents (line t p)))
      (x := some (pairContents (line u p))) ?_)
    simp only [hp, pairOfArg_pair, Option.map_some]
  · refine congrArg Host.Outcome.next (answered 0x03 (fun t => (pairOfArg arg.toNat).map (fun p => pairContents (line t p)))
      (x := none) ?_)
    simp only [pairOfArg_none h, Option.map_none]

/-- Settles O44: the answers item by item, and the QUERYs that are not taken. -/
theorem queryIsAnsweredInTheReplySlot : Obligations.QueryIsAnsweredInTheReplySlot := by
  refine ⟨exec_queries_taken, fun s k hk => ⟨identityContents_eq hk, stationContents_eq hk⟩, pairContents_eq, countersContents_eq,
    fun s i => eventsContents_eq s i, fun s blk => ⟨fun h => ?_, fun h => ?_⟩⟩
  · refine exec_snapshot_refused fun ht => ?_
    obtain ⟨hs, hl, -⟩ := snapshotTaken_iff.1 ht
    rcases h with h | h
    · exact h hs
    · omega
  · have ht : ¬queryTaken blk s = true := fun ht => by
      obtain ⟨hs, hl, hm, k, hk, hd⟩ := queryTaken_iff.1 ht
      rcases h with h | h | h | h
      · exact h hs
      · omega
      · exact h hm
      · exact h k hk hd
    exact ⟨congrArg _ (answerQuery_refused ht _ _), congrArg _ (answerQuery_refused ht _ _), congrArg _ (answerQuery_refused ht _ _),
      congrArg _ (answerQuery_refused ht _ _), congrArg _ (answerQuery_refused ht _ _), congrArg _ (setFreeze_refused ht _ _),
      congrArg _ (setFreeze_refused ht _ _), congrArg _ (answerQuery_refused ht _ _)⟩

/-- A block's end and the close of a claim slot leave the ring, the flag and the missed count. -/
theorem closeByOther_ring (s : State) :
    (closeByOther s).status.ring = s.status.ring ∧ (closeByOther s).status.missed = s.status.missed := by
  obtain ⟨h, -⟩ | ⟨h, -⟩ := closeByOther_cases s <;> rw [h]
  · exact ⟨rfl, rfl⟩
  · rw [closeNoClaim_eq]
    exact ⟨rfl, rfl⟩

/-- Settles O45: a SNAPSHOT by its destination, and the two commands of the freeze flag. -/
theorem snapshotAndRingQueriesAct : Obligations.SnapshotAndRingQueriesAct := by
  intro s dest tag rest v i
  refine ⟨fun h => ?_, fun h6 hn => ?_, fun k hm hk hd => ?_⟩
  · refine exec_snapshot_taken (snapshotTaken_iff.2 ⟨rfl, by simp, ?_⟩)
    exact h.imp_left fun h => by rw [h]; rfl
  · refine exec_snapshot_refused fun ht => ?_
    obtain ⟨-, -, h | ⟨k, hk, hd⟩⟩ := snapshotTaken_iff.1 ht
    · exact h6 (BitVec.eq_of_toNat_eq h)
    · exact hn k hk hd
  · have ht (code : Byte) : queryTaken ⟨v, bridgeAddress, i, dest :: code :: tag :: rest⟩ s = true :=
      queryTaken_iff.2 ⟨rfl, by simp, hm, k, hk, hd⟩
    obtain ⟨hring, hmissed⟩ := closeByOther_ring (blockEnded s)
    have hku (flag : Bool) : ({ closeByOther (blockEnded s) with status.frozen := flag } : State).group.number = some k := by simpa using hk
    have hcontents : ringContents (closeByOther (blockEnded s)) = BitVec.ofNat 8 s.status.ring.length :: byte2 s.status.missed.toNat := by
      rw [ringContents, hring, hmissed]
      rfl
    refine ⟨?_, ?_⟩
    · refine congrArg Host.Outcome.next ((setFreeze_taken (ht 0x07) true 0x07).trans ?_)
      rw [hcontents, placeReply_eq (hku true)]
      rfl
    · refine congrArg Host.Outcome.next ((setFreeze_taken (ht 0x08) false 0x08).trans ?_)
      rw [hcontents, placeReply_eq (hku false)]
      rfl

end Sys2Proof.Machine

namespace Sys2Proof.Machine

/-! ## The line units before service

What a timer's command and a good frame come to at one line unit, and what TRAIN and DETECT make of them. -/

section
variable {p : Pair} {s : State} {f : Frame} {k : FrameKind}

theorem whenLine_due {c : LineUnit → Bool} {g : State → State} (h : c (line s p) = true) : whenLine p c g s = g s := if_pos h

theorem whenLine_idle {c : LineUnit → Bool} {g : State → State} (h : c (line s p) = false) : whenLine p c g s = s := by
  rw [whenLine, h]
  rfl

theorem modLine_setLine (p : Pair) (g : LineUnit → LineUnit) (u : LineUnit) (s : State) :
    modLine p g (setLine p u s) = setLine p (g u) s := by
  simp only [modLine, line_setLine_same, setLine_setLine]

/-- R74: the line unit that has taken the count of a good frame. -/
def expects (f : Frame) (u : LineUnit) : LineUnit := { u with rxExpected := some (f.count + 1) }

/-- R74, R88: DETECT acts on a good frame of its kind's size. -/
theorem receive_detect {act : State → State} (h : (line s p).state = .detect) (hz : frameSizeOk k f = true) :
    receive k p f act s = act (setLine p (expects f (line s p)) s) :=
  receive_plain k p f act s (by simp [hears, h]) (by simp [inService, h]) (by simp [counting, h]) hz

/-- R74, R91: TRAIN acts on a good frame of its kind's size. -/
theorem receive_train {act : State → State} (h : (line s p).state = .train) (hz : frameSizeOk k f = true) :
    receive k p f act s = act (setLine p (expects f (line s p)) s) :=
  receive_plain k p f act s (by simp [hears, h]) (by simp [inService, h]) (by simp [counting, h]) hz

/-- R91 to R98: what a frame that TRAIN acts on does to the line unit. -/
theorem receive_train_mod {g : State → LineUnit → LineUnit} (h : (line s p).state = .train) (hz : frameSizeOk k f = true) :
    receive k p f (fun t => if (line t p).state = .train then modLine p (g t) t else t) s =
      setLine p (g (setLine p (expects f (line s p)) s) (expects f (line s p))) s := by
  rw [receive_train h hz]
  have ht : (line (setLine p (expects f (line s p)) s) p).state = .train := by simpa [expects] using h
  rw [if_pos ht, modLine_setLine]

end

/-! ### From QUIET to TRAIN (R84, R87, R88, R90) -/

theorem enterDetectLine_eq (s : State) (u : LineUnit) :
    enterDetectLine s u =
      { u with
        state := .detect
        holdOff := .stopped
        rxExpected := none
        lit := false
        litCount := 0
        unlitCount := 0
        monitor := .running 1000
        detect := .running (2 ^ (config s).detectExp * 128 * 1000)
        tx := if u.tx = none then some ⟨.wake (config s).role, 0, 1⟩ else u.tx
        txCount := if u.tx = none then 1 else 0 } := by
  simp only [enterDetectLine]
  cases htx : u.tx <;> rfl

/-- R88: a monitor period of DETECT that is not the third lit one. -/
theorem detectPeriod_stays {s : State} {u : LineUnit} (h : (litPeriod { u with monitor := .running Config.monitorPeriod }).litCount < 3) :
    detectPeriod s u = litPeriod { u with monitor := .running Config.monitorPeriod } := if_neg (by omega)

/-- R88, R90: the third lit period. -/
theorem detectPeriod_third {s : State} {u : LineUnit} (h : 3 ≤ (litPeriod { u with monitor := .running Config.monitorPeriod }).litCount) :
    detectPeriod s u = enterTrainLine s (litPeriod { u with monitor := .running Config.monitorPeriod }) := if_pos h

theorem litPeriod_lit {u : LineUnit} (h : u.lit = true) :
    litPeriod u = { u with litCount := u.litCount + 1, unlitCount := 0, lit := false } := if_pos h

theorem litPeriod_unlit {u : LineUnit} (h : u.lit = false) :
    litPeriod u =
      if 4 ≤ u.unlitCount + 1 then { u with litCount := 0, unlitCount := 0 } else { u with unlitCount := u.unlitCount + 1 } :=
  if_neg (by simp [h])

theorem exec_monitorPeriodEnd_detect {p : Pair} {s : State} (h : (line s p).state = .detect) (hm : (line s p).monitor = .running 0) :
    exec (.monitorPeriodEnd p) s = .next (setLine p (detectPeriod s (line s p)) s) := by
  refine congrArg Host.Outcome.next ((whenLine_due ?_).trans (if_pos h))
  simp [isDue, hm]

/-- Settles O46: the hold-off's expiry and each monitor period of DETECT, by the period's marks. -/
theorem litRunLeadsFromQuietToTrain : Obligations.LitRunLeadsFromQuietToTrain := by
  intro p s f n u
  refine ⟨fun hq hh => ?_, fun hq hh => ?_, fun hm => ?_, fun hd hz => ?_, fun hd => ?_,
    fun hd hm hlt => ⟨fun hl h2 => ?_, fun hl h3 => ?_, fun hl h3 => ?_, fun hl h2 => ?_⟩⟩
  · have hdue : holdOffDue u = true := by simp [holdOffDue, hq, hh]
    refine congrArg Host.Outcome.next ((whenLine_due hdue).trans ?_)
    rw [modLine, enterDetectLine_eq]
  · have hdue : holdOffDue u = false := by rcases hh with hh | hh <;> simp [holdOffDue, hq, hh]
    exact congrArg Host.Outcome.next (whenLine_idle hdue)
  · exact congrArg Host.Outcome.next (whenLine_idle (by simp [isDue, u, hm] at *))
  · refine congrArg Host.Outcome.next ((receive_detect hd hz).trans ?_)
    rw [modLine_setLine, lightPeriod, if_pos (by exact hd)]
    rfl
  · exact congrArg Host.Outcome.next (if_pos hd)
  all_goals rw [exec_monitorPeriodEnd_detect hd hm]
  · have hlit := litPeriod_lit (u := { u with monitor := .running Config.monitorPeriod }) hl
    rw [detectPeriod_stays (by rw [hlit]; exact Nat.succ_lt_succ h2), hlit]
  · have hlit := (litPeriod_unlit (u := { u with monitor := .running Config.monitorPeriod }) hl).trans (if_neg (by exact Nat.not_le.2 (Nat.succ_lt_succ h3)))
    rw [detectPeriod_stays (by rw [hlit]; exact hlt), hlit]
  · have hlit := (litPeriod_unlit (u := { u with monitor := .running Config.monitorPeriod }) hl).trans (if_pos (by exact Nat.succ_le_succ h3))
    rw [detectPeriod_stays (by rw [hlit]; exact Nat.zero_lt_succ 2), hlit]
  · have hlit := litPeriod_lit (u := { u with monitor := .running Config.monitorPeriod }) hl
    have h3 : (litPeriod { u with monitor := .running Config.monitorPeriod }).litCount = 3 := by
      rw [hlit]
      exact congrArg (· + 1) h2
    rw [detectPeriod_third h3.ge, hlit]
    have h3' : u.litCount + 1 = 3 := congrArg (· + 1) h2
    simp only [enterTrainLine, Config.ms]
    rw [h3']

end Sys2Proof.Machine

namespace Sys2Proof.Machine

/-! ### The commands TRAIN acts on -/

section
variable {p : Pair} {s : State} {f : Frame}

theorem exec_params_train (h : (line s p).state = .train) (hz : frameSizeOk .params f = true) :
    exec (.params p f) s = .next (trainParams p f (setLine p (expects f (line s p)) s)) := by
  have ht : (line (setLine p (expects f (line s p)) s) p).state = .train := by simpa [expects] using h
  exact congrArg Host.Outcome.next ((receive_train h hz).trans (if_pos ht))

theorem exec_probe_train (h : (line s p).state = .train) (hz : frameSizeOk .probe f = true) :
    exec (.probe p f) s = .next (setLine p (trainProbe (config s).role f (expects f (line s p))) s) :=
  congrArg Host.Outcome.next (receive_train_mod (g := fun t => trainProbe (config t).role f) h hz)

theorem exec_closingProbe_train (h : (line s p).state = .train) (hz : frameSizeOk .probe f = true) :
    exec (.closingProbe p f) s = .next (setLine p (trainClosing (config s).role f (expects f (line s p))) s) :=
  congrArg Host.Outcome.next (receive_train_mod (g := fun t => trainClosing (config t).role f) h hz)

theorem exec_closingVerdict_train (h : (line s p).state = .train) (hz : frameSizeOk .verdict f = true) :
    exec (.closingVerdict p f) s = .next (setLine p (trainAcked (config s).role (expects f (line s p))) s) :=
  congrArg Host.Outcome.next (receive_train_mod (g := fun t => trainAcked (config t).role) h hz)

/-- R91, R94: a VERDICT in TRAIN is evidence, and the result of the burst the line unit waits for. -/
theorem exec_verdict_train (h : (line s p).state = .train) (hz : frameSizeOk .verdict f = true) :
    exec (.verdict p f) s = .next (
      if awaitsBurst (frameSeq f).toNat (takeEvidence (config s).role (expects f (line s p))) then
        burstResult p (verdictClean f) (setLine p (takeEvidence (config s).role (expects f (line s p))) s)
      else setLine p (takeEvidence (config s).role (expects f (line s p))) s) := by
  have ht : (line (setLine p (expects f (line s p)) s) p).state = .train := by simpa [expects] using h
  refine congrArg Host.Outcome.next ((receive_train h hz).trans ((if_pos ht).trans ?_))
  simp only [modLine_setLine, line_setLine_same, config_setLine]

end

/-! ### The end of the PARAMS phase (R91) -/

/-- R91: the line unit once the far end is known to hold its PARAMS. -/
def evidenced (u : LineUnit) : LineUnit := { u with train := { u.train with evidence := true } }

/-- R91, R93: the line unit at the end of the PARAMS phase, the farm end waiting as receiver and the cabinet end at the
start of its search. -/
def paramsOver (role : Role) (u : LineUnit) : LineUnit :=
  match role with
  | .farm => { u with train := { u.train with phase := .receiving, evidence := true } }
  | .cabinet =>
    { u with
      train :=
        { u.train with
          phase := .sending
          evidence := true
          paramsFill := false
          search := some ⟨.rising, u.train.lo, none, none, 1⟩
          probeNext := some 0
          deadline := .stopped } }

section
variable {role : Role} {u : LineUnit}

theorem endParams_stays (h : u.train.phase ≠ .params ∨ u.farParams = none ∨ u.train.evidence = false) : endParams role u = u := by
  refine if_neg ?_
  rintro ⟨hp, hf, he⟩
  rcases h with h | h | h
  · exact h hp
  · simp [h] at hf
  · simp [h] at he

theorem endParams_ends (hp : u.train.phase = .params) (hf : u.farParams.isSome = true) (he : u.train.evidence = true) :
    endParams role u = paramsOver role u := by
  refine (if_pos ⟨hp, hf, he⟩).trans ?_
  cases role <;> simp only [paramsOver, beginSearch, modTrain, searchStart, ← he]

theorem takeEvidence_stays (h : u.train.phase ≠ .params ∨ u.farParams = none) : takeEvidence role u = evidenced u :=
  endParams_stays (h.imp_right Or.inl)

theorem takeEvidence_ends (hp : u.train.phase = .params) (hf : u.farParams.isSome = true) : takeEvidence role u = paramsOver role u := by
  refine (endParams_ends (u := evidenced u) hp hf rfl).trans ?_
  cases role <;> rfl

end

/-! ### PARAMS in TRAIN (R91, R92) -/

section
variable {p : Pair} {s : State} {f : Frame}

theorem line_failTraining_state (p : Pair) (c : TrainCause) (s : State) : (line (failTraining p c s) p).state = .quiet := by
  simp only [failTraining, line_recordEvent, line_countPair, line_setLine_same]
  cases c <;> rfl

/-- R92: a first PARAMS that fails a check ends TRAIN. -/
theorem trainParams_fails {c : TrainCause} {t : State} (hn : (line s p).farParams = none) (h : firstParams p f s = failTraining p c t) :
    trainParams p f s = failTraining p c t := by
  have hs : (line (failTraining p c t) p).state ≠ .train := by simp [line_failTraining_state]
  simp only [trainParams, hn, Option.isNone_none, if_true, h, if_neg hs]

theorem trainParams_held (ht : (line s p).state = .train) (hf : (line s p).farParams.isSome = true) :
    trainParams p f s = setLine p
      (if frameYoursHeld f then takeEvidence (config s).role (line s p) else endParams (config s).role (line s p)) s := by
  have hn : ¬(line s p).farParams.isNone = true := by simpa [Option.isSome_iff_ne_none] using hf
  simp only [trainParams, if_neg hn, if_pos ht, modLine]

/-- R91, R92: a first PARAMS that passes both checks. -/
theorem trainParams_first {v : LineUnit} (hn : (line s p).farParams = none) (hv : v.state = .train)
    (h : firstParams p f s = setLine p v s) :
    trainParams p f s =
      setLine p (if frameYoursHeld f then takeEvidence (config s).role v else endParams (config s).role v) s := by
  simp only [trainParams, hn, Option.isNone_none, if_true, h, line_setLine_same, hv, modLine_setLine]

end

/-- R91, R92: a PARAMS through the receiver, by state and by the phase of TRAIN. -/
theorem exec_params_by_state (p : Pair) (f : Frame) (s : State) (hz : frameSizeOk .params f = true) :
    let u := line s p
    let c := config s
    let far := paramsOf f
    let lo := max c.minRate far.minRate
    let hi := min c.maxRate far.maxRate
    let held : LineUnit := { u with rxExpected := some (f.count + 1), farParams := some far }
    let kept : LineUnit := { held with farCeiling := far.ceiling, train := { u.train with lo := lo, hi := hi } }
    let ends (v : LineUnit) : State := setLine p (paramsOver c.role v) s
    (u.state = .detect →
        exec (.params p f) s = .next (setLine p { u with rxExpected := some (f.count + 1), lit := true } s)) ∧
      (u.state = .train → u.train.phase = .params → u.farParams = none →
        (far.role = roleByte c.role →
            exec (.params p f) s = .next (failTraining p .roleClash (setLine p held s))) ∧
          (far.role ≠ roleByte c.role → hi < lo →
            exec (.params p f) s = .next (failTraining p .rangeClash (setLine p held s))) ∧
          (far.role ≠ roleByte c.role → lo ≤ hi → frameYoursHeld f = true ∨ u.train.evidence = true →
            exec (.params p f) s = .next (ends kept)) ∧
          (far.role ≠ roleByte c.role → lo ≤ hi → frameYoursHeld f = false → u.train.evidence = false →
            exec (.params p f) s = .next (setLine p kept s))) ∧
      (u.state = .train → u.train.phase = .params → u.farParams.isSome = true → frameYoursHeld f = true →
        exec (.params p f) s = .next (ends { u with rxExpected := some (f.count + 1) })) ∧
      (u.state = .train → u.train.phase = .params → u.farParams.isSome = true → frameYoursHeld f = false →
        (u.train.evidence = true →
            exec (.params p f) s = .next (ends { u with rxExpected := some (f.count + 1) })) ∧
          (u.train.evidence = false →
            exec (.params p f) s = .next (setLine p { u with rxExpected := some (f.count + 1) } s))) ∧
      (u.state = .train → u.train.phase ≠ .params → u.farParams.isSome = true →
        exec (.params p f) s =
          .next
            (setLine p
              { u with
                rxExpected := some (f.count + 1)
                train := { u.train with evidence := u.train.evidence || frameYoursHeld f } } s)) := by
  intro u c far lo hi held kept ends
  let t := setLine p (expects f u) s
  have hline : line t p = expects f u := line_setLine_same _ _ _
  have hput (v : LineUnit) : setLine p v t = setLine p v s := setLine_setLine _ _ _ _
  have hfirst : firstParams p f t =
      if far.role = roleByte c.role then failTraining p .roleClash (setLine p held s)
      else if hi < lo then failTraining p .rangeClash (setLine p held s)
      else setLine p kept s := by
    simp only [firstParams, modLine_setLine, t]
    rfl
  have hheld (hs : u.state = .train) (hf : u.farParams.isSome = true) :
      exec (.params p f) s = .next (setLine p
        (if frameYoursHeld f then takeEvidence c.role (expects f u) else endParams c.role (expects f u)) s) := by
    rw [exec_params_train hs hz, trainParams_held (s := t) (by rw [hline]; exact hs) (by rw [hline]; exact hf), hline, hput]
    rfl
  have hkept (hs : u.state = .train) (hn : u.farParams = none) (hr : far.role ≠ roleByte c.role) (hlo : lo ≤ hi) :
      exec (.params p f) s = .next (setLine p
        (if frameYoursHeld f then takeEvidence c.role kept else endParams c.role kept) s) := by
    rw [exec_params_train hs hz, trainParams_first (s := t) (v := kept) (by rw [hline]; exact hn) hs, hput]
    · rfl
    · rw [hfirst, if_neg hr, if_neg (by omega), hput]
  refine ⟨fun hs => ?_, fun hs hp hn => ⟨fun hr => ?_, fun hr hlt => ?_, fun hr hlo he => ?_, fun hr hlo hy he => ?_⟩,
    fun hs hp hf hy => ?_, fun hs hp hf hy => ⟨fun he => ?_, fun he => ?_⟩, fun hs hp hf => ?_⟩
  · have ht : ¬(line t p).state = .train := by rw [hline]; simpa [expects, u] using hs ▸ nofun
    refine congrArg Host.Outcome.next ((receive_detect hs hz).trans ((if_neg ht).trans ?_))
    rw [modLine_setLine, lightPeriod, if_pos (by exact hs)]
    rfl
  · rw [exec_params_train hs hz, trainParams_fails (s := t) (by rw [hline]; exact hn) (hfirst.trans (if_pos hr))]
  · rw [exec_params_train hs hz,
      trainParams_fails (s := t) (by rw [hline]; exact hn) (hfirst.trans ((if_neg hr).trans (if_pos hlt)))]
  · rw [hkept hs hn hr hlo]
    cases hy : frameYoursHeld f with
    | true => rw [if_pos rfl, takeEvidence_ends (u := kept) hp rfl]
    | false =>
      have he : u.train.evidence = true := by simpa [hy] using he
      rw [if_neg nofun, endParams_ends (u := kept) hp rfl he]
  · rw [hkept hs hn hr hlo, hy, if_neg nofun, endParams_stays (u := kept) (.inr (.inr he))]
  · rw [hheld hs hf, hy, if_pos rfl, takeEvidence_ends (u := expects f u) hp hf]
    rfl
  · rw [hheld hs hf, hy, if_neg nofun, endParams_ends (u := expects f u) hp hf he]
    rfl
  · rw [hheld hs hf, hy, if_neg nofun, endParams_stays (u := expects f u) (.inr (.inr he))]
    rfl
  · rw [hheld hs hf, endParams_stays (u := expects f u) (.inl hp), takeEvidence_stays (u := expects f u) (.inl hp)]
    cases hy : frameYoursHeld f
    · simp only [Bool.or_false]
      rfl
    · simp only [Bool.or_true]
      rfl

/-! ### PROBE and VERDICT as evidence (R91) -/

section
variable {role : Role} {f : Frame} {u : LineUnit}

theorem probeAcks_stays (h : role = .farm ∨ u.train.phase ≠ .closing) : probeAcks role u = u := by
  refine if_neg ?_
  rintro ⟨hr, hp⟩
  rcases h with h | h
  · rw [hr] at h
    cases h
  · exact h hp

theorem trainProbe_stays (ha : role = .farm ∨ (takeEvidence role u).train.phase ≠ .closing)
    (hp : (takeEvidence role u).train.phase ≠ .receiving) : trainProbe role f u = takeEvidence role u := by
  rw [trainProbe, probeAcks_stays ha]
  exact if_neg hp

theorem trainClosing_stays (ha : role = .farm ∨ (takeEvidence role u).train.phase ≠ .closing)
    (hc : takesClosing role (takeEvidence role u) = false) : trainClosing role f u = takeEvidence role u := by
  rw [trainClosing, probeAcks_stays ha]
  exact if_neg (by simp [hc])

theorem trainAcked_stays (hp : (takeEvidence role u).train.phase ≠ .closing) : trainAcked role u = takeEvidence role u := if_neg hp

end

/-- R91: in the PARAMS phase every PROBE and VERDICT is evidence, and no more where it leaves no receiver. -/
theorem exec_evidence (p : Pair) (f : Frame) (s : State) (v : LineUnit) (hs : (line s p).state = .train)
    (hv : takeEvidence (config s).role (expects f (line s p)) = v)
    (hph : v.train.phase = .params ∨ (v.train.phase = .sending ∧ v.train.deadline = .stopped ∧ (config s).role = .cabinet)) :
    ∀ x ∈ [(FrameKind.probe, Instr.probe p f), (.probe, .closingProbe p f), (.verdict, .verdict p f), (.verdict, .closingVerdict p f)],
      frameSizeOk x.1 f = true → exec x.2 s = .next (setLine p v s) := by
  have hclosing : v.train.phase ≠ .closing := by rcases hph with h | ⟨h, -⟩ <;> simp [h]
  have hreceiving : v.train.phase ≠ .receiving := by rcases hph with h | ⟨h, -⟩ <;> simp [h]
  have hawaits (n : Nat) : awaitsBurst n v = false := by rcases hph with h | ⟨h, hd, -⟩ <;> simp [awaitsBurst, isRunning, *]
  have htakes : takesClosing (config s).role v = false := by
    rcases hph with h | ⟨h, -, hr⟩
    · cases hr : (config s).role <;> simp [takesClosing, h]
    · simp [takesClosing, h, hr]
  intro x hx hz
  simp only [List.mem_cons, List.not_mem_nil, or_false] at hx
  rcases hx with rfl | rfl | rfl | rfl
  · rw [exec_probe_train hs hz, trainProbe_stays (by rw [hv]; exact .inr hclosing) (by rw [hv]; exact hreceiving), hv]
  · rw [exec_closingProbe_train hs hz, trainClosing_stays (by rw [hv]; exact .inr hclosing) (by rw [hv]; exact htakes), hv]
  · rw [exec_verdict_train hs hz, hv, if_neg (by simp [hawaits])]
  · rw [exec_closingVerdict_train hs hz, trainAcked_stays (by rw [hv]; exact hclosing), hv]

/-- Settles O47: a PARAMS by state and phase, and a PROBE or VERDICT as evidence, by the record held and the role. -/
theorem paramsAreCheckedAndEndTheirPhase : Obligations.ParamsAreCheckedAndEndTheirPhase := by
  refine ⟨fun p f s hz => ?_, fun p f s hs hp => ?_⟩
  · have h := exec_params_by_state p f s hz
    cases hr : (config s).role <;> simp only [hr, paramsOver] at h <;> simpa only [hr] using h
  intro u probes verdicts shown
  refine ⟨fun hn => ?_, fun hf hr => ?_, fun hf hr => ⟨?_, ?_⟩⟩
  · exact exec_evidence p f s (shown .params) hs
      ((takeEvidence_stays (u := expects f u) (.inr hn)).trans (by simp only [evidenced, expects, shown, ← hp]; rfl)) (.inl rfl)
  · refine exec_evidence p f s _ hs ?_ (.inr ⟨rfl, rfl, hr⟩)
    rw [hr, takeEvidence_ends (u := expects f u) hp hf]
    rfl
  · have hv : takeEvidence (config s).role (expects f u) = shown .receiving := by
      rw [hr, takeEvidence_ends (u := expects f u) hp hf]
      rfl
    intro x hx hz
    simp only [verdicts, List.mem_cons, List.not_mem_nil, or_false] at hx
    rcases hx with rfl | rfl
    · rw [exec_verdict_train hs hz, hv, if_neg (by simp [awaitsBurst, shown])]
    · rw [exec_closingVerdict_train hs hz, trainAcked_stays (by rw [hv]; simp [shown]), hv]
  · let w : LineUnit := { u with train := { u.train with phase := .receiving } }
    have hw : (line (setLine p w s) p).state = .train := by rw [line_setLine_same]; exact hs
    have hv : takeEvidence (config s).role (expects f w) = takeEvidence (config s).role (expects f u) := by
      rw [hr, takeEvidence_ends (u := expects f u) hp hf, takeEvidence_stays (u := expects f w) (.inl nofun)]
      rfl
    intro x hx hz
    simp only [probes, List.mem_cons, List.not_mem_nil, or_false] at hx
    rcases hx with rfl | rfl
    · rw [exec_probe_train hs hz, exec_probe_train hw hz, line_setLine_same, setLine_setLine, config_setLine, trainProbe, trainProbe, hv]
    · rw [exec_closingProbe_train hs hz, exec_closingProbe_train hw hz, line_setLine_same, setLine_setLine, config_setLine,
        trainClosing, trainClosing, hv]

end Sys2Proof.Machine

namespace Sys2Proof.Machine

/-! ### The sender of a direction (R93, R94, R96, R97) -/

section
variable {p : Pair} {s : State} {sr sr' : Search} {clean : Bool} {r : Nat}

theorem burstResult_next (h : (line s p).train.search = some sr)
    (hr : searchStep (line s p).train.lo (line s p).train.hi clean sr = .next sr') :
    burstResult p clean s =
      setLine p
        { line s p with
          train := { (line s p).train with search := some sr', probeNext := some 0, deadline := .stopped } } s := by
  simp only [burstResult, h, hr]

theorem burstResult_done (h : (line s p).train.search = some sr)
    (hr : searchStep (line s p).train.lo (line s p).train.hi clean sr = .done r) :
    burstResult p clean s = setLine p (endSearch r (line s p)) s := by
  simp only [burstResult, h, hr]

theorem burstResult_floor (h : (line s p).train.search = some sr)
    (hr : searchStep (line s p).train.lo (line s p).train.hi clean sr = .floor) :
    burstResult p clean s = failTraining p .rateFloor s := by
  simp only [burstResult, h, hr]

theorem awaitsBurst_of_sending {u : LineUnit} {n m : Nat} (hp : u.train.phase = .sending) (hs : u.train.search = some sr)
    (hd : u.train.deadline = .running n) : awaitsBurst m u = decide (m = sr.burst) := by
  simp only [awaitsBurst, hp, hd, hs, isRunning, Option.any_some, beq_self_eq_true, Bool.true_and]
  exact (Bool.beq_eq_decide_eq _ _).trans (decide_eq_decide.2 eq_comm)

/-- The end of a frame of the named content: the frame leaves the pair and its end takes effect (R75). -/
theorem endOf_content {is : TxContent → Bool} {c : TxContent} {i : BitVec 24} {q : Nat} (h : (line s p).tx = some ⟨c, i, q⟩)
    (hc : is c = true) : endOf is p s = contentEnds p c (setLine p { line s p with tx := none } s) := by
  simp only [endOf, h, hc, if_true, frameEnds, modLine]

end

/-- R94: the burst's VERDICT, taken before its deadline. -/
theorem exec_verdict_sending (p : Pair) (f : Frame) (s : State) (n : Nat) (sr : Search) (hs : (line s p).state = .train)
    (hp : (line s p).train.phase = .sending) (hsr : (line s p).train.search = some sr)
    (hd : (line s p).train.deadline = .running n) (hz : frameSizeOk .verdict f = true) :
    exec (.verdict p f) s = .next (
      if (frameSeq f).toNat = sr.burst then
        burstResult p (verdictClean f) (setLine p (evidenced (expects f (line s p))) s)
      else setLine p (evidenced (expects f (line s p))) s) := by
  have hv : takeEvidence (config s).role (expects f (line s p)) = evidenced (expects f (line s p)) :=
    takeEvidence_stays (.inl (by simp [expects, hp]))
  rw [exec_verdict_train hs hz, hv, awaitsBurst_of_sending (u := evidenced (expects f (line s p))) hp hsr hd]
  simp only [decide_eq_true_eq]

theorem exec_verdictDeadline_due (p : Pair) (s : State) (hs : (line s p).state = .train) (hp : (line s p).train.phase = .sending)
    (hd : (line s p).train.deadline = .running 0) : exec (.verdictDeadline p) s = .next (burstResult p false s) :=
  congrArg Host.Outcome.next (whenLine_due (by simp [verdictDue, hs, hp, hd, isDue]))

/-- Settles O48: a VERDICT or the deadline by what the search makes of it, and the closing PROBE's end, repeat and
acknowledgement. -/
theorem senderTakesEachBurstResult : Obligations.SenderTakesEachBurstResult := by
  intro p f s n r q i sr sr' hs u c seen onward trained
  have hseen (hp : u.train.phase ≠ .params) : takeEvidence c.role (expects f u) = seen := takeEvidence_stays (.inl hp)
  refine ⟨fun hd => ?_, fun hw => ?_, fun hp hsr hd => ⟨fun hz hb => ⟨fun hr => ?_, fun hr => ?_, fun hr => ?_⟩, fun hz hb => ?_,
    fun hn hr => ?_, fun hn hr => ?_, fun hn hr => ?_⟩, fun hz => ⟨fun hp => ?_, fun hp => ?_⟩,
    fun hp => ⟨fun hz => ?_, fun hw => ?_, fun htx => ?_⟩⟩
  · exact congrArg Host.Outcome.next (whenLine_idle (by simp [verdictDue, show (line s p).train.deadline = _ from hd, isDue]))
  · exact congrArg Host.Outcome.next (whenLine_idle (by simp [closingDue, show (line s p).train.closingWait = _ from hw, isDue]))
  · rw [exec_verdict_sending p f s n sr hs hp hsr hd hz, if_pos hb,
      burstResult_next (sr := sr) (sr' := sr') (by rw [line_setLine_same]; exact hsr) (by rw [line_setLine_same]; exact hr),
      line_setLine_same, setLine_setLine]
    rfl
  · rw [exec_verdict_sending p f s n sr hs hp hsr hd hz, if_pos hb,
      burstResult_done (sr := sr) (r := r) (by rw [line_setLine_same]; exact hsr) (by rw [line_setLine_same]; exact hr),
      line_setLine_same, setLine_setLine]
    rfl
  · rw [exec_verdict_sending p f s n sr hs hp hsr hd hz, if_pos hb,
      burstResult_floor (sr := sr) (by rw [line_setLine_same]; exact hsr) (by rw [line_setLine_same]; exact hr)]
    rfl
  · rw [exec_verdict_sending p f s n sr hs hp hsr hd hz, if_neg hb]
    rfl
  · rw [exec_verdictDeadline_due p s hs hp (hn ▸ hd), burstResult_next hsr hr]
  · rw [exec_verdictDeadline_due p s hs hp (hn ▸ hd), burstResult_done hsr hr]
    rfl
  · rw [exec_verdictDeadline_due p s hs hp (hn ▸ hd), burstResult_floor hsr hr]
  · have hph : u.train.phase ≠ .params := by rcases hp with h | h | h | ⟨h, -⟩ <;> simp [h]
    have hawaits : awaitsBurst (frameSeq f).toNat seen = false := by
      rcases hp with h | h | h | ⟨h, hd⟩ <;> simp [awaitsBurst, seen, isRunning, *]
    rw [exec_verdict_train hs hz, hseen hph, if_neg (by simp [hawaits])]
  · have hph : u.train.phase ≠ .params ∧ u.train.phase ≠ .closing := by rcases hp with h | h | h <;> simp [h]
    rw [exec_closingVerdict_train hs hz, trainAcked_stays (by rw [hseen hph.1]; exact hph.2), hseen hph.1]
  · have hph : u.train.phase ≠ .params := by simp [hp]
    rw [exec_closingVerdict_train hs hz, trainAcked, hseen hph, if_pos (by exact hp)]
    simp only [c]
    cases (config s).role <;> rfl
  · exact congrArg Host.Outcome.next (whenLine_due (by simp [closingDue, hs, show (line s p).train.phase = _ from hp, show (line s p).train.closingWait = _ from hw, isDue]))
  · refine congrArg Host.Outcome.next ((endOf_content htx rfl).trans ?_)
    have ht : (line (setLine p { u with tx := none } s) p).state = .train := by rw [line_setLine_same]; exact hs
    refine (if_pos ht).trans ?_
    rw [modLine_setLine, closingProbeEnds, if_pos (by exact hp)]
    rfl

end Sys2Proof.Machine

namespace Sys2Proof.Machine

/-! ### The receiver of a direction (R95, R96) -/

section
variable {u : LineUnit} {j : BurstJudge} {b : Nat} {f : Frame}

theorem judgeAfter_newer (h : j.burst < b) : judgeAfter b (some j) = some ⟨b, 1, false⟩ := if_pos h

theorem judgeAfter_same (h : j.burst = b) (hj : j.judged = false) (hg : j.good < 64) :
    judgeAfter b (some j) = some { j with good := j.good + 1 } := by
  have hmin : min 64 (j.good + 1) = j.good + 1 := by omega
  simp only [judgeAfter]
  rw [if_neg (by omega), if_pos (by simp [h, hj]), hmin]

theorem judgeAfter_ignored (h : b < j.burst ∨ (j.burst = b ∧ j.judged = true)) : judgeAfter b (some j) = none := by
  simp only [judgeAfter]
  rw [if_neg (by omega), if_neg]
  rintro ⟨hb, hj⟩
  rcases h with h | ⟨-, h⟩
  · omega
  · simp [h] at hj

theorem directionEnds_stays {role : Role} (h : u.train.phase ≠ .receiving) : directionEnds role u = u := if_neg h

theorem takesClosing_sending (h : u.train.phase = .sending) : takesClosing .cabinet u = false := by
  simp only [takesClosing, h]

theorem closeWindow_of_judge (h : u.train.judge = some j) :
    closeWindow u =
      { u with
        train :=
          { u.train with
            judge := some { j with judged := true }
            window := .stopped
            verdict := some (.burst j.burst j.good (decide (62 ≤ j.good))) } } := by
  simp only [closeWindow, h, Config.cleanBurst]

theorem judgeProbe_ignored (h : judgeAfter (bodyByte f.body 0) u.train.judge = none) : judgeProbe f u = u := by
  simp only [judgeProbe, h]

/-- R95: a counted PROBE keeps the window open, and the one of index 63 closes it. -/
theorem judgeProbe_counted (h : judgeAfter (bodyByte f.body 0) u.train.judge = some j) :
    let i := (frameSeq f).toNat
    let rate := rateField (bodyWord f.body 1)
    (i < 63 → judgeProbe f u =
      { u with
        train :=
          { u.train with
            judge := some j
            window := .running (((63 - i) * 16000 + rate - 1) / rate + 10000) } }) ∧
      (i = 63 → judgeProbe f u =
        { u with
          train :=
            { u.train with
              judge := some { j with judged := true }
              window := .stopped
              verdict := some (.burst j.burst j.good (decide (62 ≤ j.good))) } }) := by
  intro i rate
  refine ⟨fun hi => ?_, fun hi => ?_⟩
  · simp only [judgeProbe, h]
    rw [if_neg (by omega), probeWindow, if_pos (by omega)]
    rfl
  · simp only [judgeProbe, h]
    rw [if_pos hi, closeWindow_of_judge (j := j) rfl]
    rfl

end

section
variable {p : Pair} {f : Frame} {s : State}

/-- R95: a PROBE at a receiver. -/
theorem exec_probe_receiving (hs : (line s p).state = .train) (hp : (line s p).train.phase = .receiving)
    (hz : frameSizeOk .probe f = true) :
    exec (.probe p f) s =
      .next (setLine p (judgeProbe f (modTrain (fun t => { t with paramsFill := false }) (evidenced (expects f (line s p))))) s) := by
  have hv : takeEvidence (config s).role (expects f (line s p)) = evidenced (expects f (line s p)) :=
    takeEvidence_stays (.inl (by simp [expects, hp]))
  rw [exec_probe_train hs hz, trainProbe, hv,
    probeAcks_stays (u := evidenced (expects f (line s p))) (.inr (by simp [evidenced, expects, hp])), if_pos (by exact hp)]

/-- R96: a closing PROBE at a line unit that is or has been a receiver. -/
theorem exec_closingProbe_taken (hs : (line s p).state = .train) (hz : frameSizeOk .probe f = true)
    (hph : (config s).role = .farm ∧ (line s p).train.phase ≠ .params ∨ (line s p).train.phase = .receiving ∨
      (line s p).train.phase = .echo) :
    exec (.closingProbe p f) s =
      .next (setLine p (directionEnds (config s).role
        (recordClosing (rateField (bodyWord f.body 1)) (evidenced (expects f (line s p))))) s) := by
  have hne : (line s p).train.phase ≠ .params := by rcases hph with ⟨-, h⟩ | h | h <;> simp [h]
  have hv : takeEvidence (config s).role (expects f (line s p)) = evidenced (expects f (line s p)) := takeEvidence_stays (.inl hne)
  have ha : (config s).role = .farm ∨ (line s p).train.phase ≠ .closing := by rcases hph with ⟨h, -⟩ | h | h <;> simp [h]
  have ht : takesClosing (config s).role (evidenced (expects f (line s p))) = true := by
    rcases hph with ⟨hr, h⟩ | h | h
    · cases hq : (line s p).train.phase <;> simp_all [takesClosing, evidenced, expects]
    · cases hr : (config s).role <;> simp [takesClosing, evidenced, expects, h]
    · cases hr : (config s).role <;> simp [takesClosing, evidenced, expects, h]
  rw [exec_closingProbe_train hs hz, trainClosing, hv, probeAcks_stays (u := evidenced (expects f (line s p))) ha, if_pos ht]

end

/-- Settles O49: the PROBE of a burst by what it makes of the judge, and the closing PROBE by role and phase. -/
theorem receiverJudgesEachBurst : Obligations.ReceiverJudgesEachBurst := by
  refine ⟨fun p f s n j hs hp hz => ?_, fun p f s hs hz => ?_⟩
  · intro u c b i rate seen open' closed quiet counted
    have hcounted (x : BurstJudge) (h : judgeAfter b u.train.judge = some x) : counted x := by
      obtain ⟨hopen, hclose⟩ := judgeProbe_counted (u := quiet) (f := f) h
      refine ⟨fun hi => (exec_probe_receiving hs hp hz).trans ?_, fun hi => (exec_probe_receiving hs hp hz).trans ?_⟩
      · exact congrArg (fun v => Host.Outcome.next (setLine p v s)) (hopen hi)
      · exact congrArg (fun v => Host.Outcome.next (setLine p v s)) (hclose hi)
    refine ⟨fun hj => hcounted _ (by rw [hj]; rfl), fun hj hb => hcounted _ (by rw [hj]; exact judgeAfter_newer hb),
      fun hj hb hd hg => hcounted _ (by rw [hj]; exact judgeAfter_same hb hd hg), fun hj hb => ?_, fun hw => ?_, fun hj hw => ?_,
      fun hr => ?_, fun hr => ?_⟩
    · have h : judgeAfter (bodyByte f.body 0) quiet.train.judge = none :=
        (congrArg (judgeAfter b) hj).trans (judgeAfter_ignored hb)
      exact (exec_probe_receiving hs hp hz).trans (congrArg (fun v => Host.Outcome.next (setLine p v s)) (judgeProbe_ignored h))
    · exact congrArg Host.Outcome.next (whenLine_idle (by simp [isDue, show (line s p).train.window = _ from hw]))
    · refine congrArg Host.Outcome.next ((whenLine_due ?_).trans ?_)
      · simp [isDue, hs, show (line s p).train.window = _ from hw]
      · rw [modLine, closeWindow_of_judge hj]
    · rw [exec_closingProbe_taken hs hz (.inr (.inl hp)), show (config s).role = .farm from hr, directionEnds, if_pos (by exact hp)]
      rfl
    · rw [exec_closingProbe_taken hs hz (.inr (.inl hp)), show (config s).role = .cabinet from hr, directionEnds, if_pos (by exact hp)]
      rfl
  · intro u phase rate seen acked
    refine ⟨fun hr hp => ?_, fun hph => ?_, fun hr hp => ?_⟩
    · have ha : (line (setLine p acked s) p).state = .train := by rw [line_setLine_same]; exact hs
      have hleft : probeAcks (config s).role (takeEvidence (config s).role (expects f u)) = evidenced (expects f acked) := by
        rw [takeEvidence_stays (u := expects f u) (.inl (by simp [expects, show u.train.phase = _ from hp])), probeAcks,
          if_pos ⟨hr, hp⟩, hr]
        rfl
      have hright : probeAcks (config s).role (takeEvidence (config s).role (expects f acked)) = evidenced (expects f acked) := by
        rw [takeEvidence_stays (u := expects f acked) (.inl nofun)]
        exact probeAcks_stays (.inr nofun)
      refine ⟨?_, ?_⟩
      · rw [exec_probe_train hs hz, exec_probe_train ha hz, line_setLine_same, setLine_setLine, config_setLine, trainProbe, trainProbe,
          hleft, hright]
      · rw [exec_closingProbe_train hs hz, exec_closingProbe_train ha hz, line_setLine_same, setLine_setLine, config_setLine,
          trainClosing, trainClosing, hleft, hright]
    · have hne : u.train.phase ≠ .params ∧ u.train.phase ≠ .receiving := by
        rcases hph with ⟨-, h | h⟩ | h <;> simp [show u.train.phase = _ from h]
      have hv : takeEvidence (config s).role (expects f u) = seen := takeEvidence_stays (.inl hne.1)
      have hfarm : (config s).role = .farm ∨ u.train.phase = .echo := hph.imp_left (·.1)
      have hc : (config s).role = .farm ∨ seen.train.phase ≠ .closing := hfarm.imp_right fun h => by simp [seen, h]
      refine ⟨?_, ?_⟩
      · rw [exec_probe_train hs hz, trainProbe_stays (by rw [hv]; exact hc) (by rw [hv]; exact hne.2), hv]
      · rw [exec_closingProbe_taken hs hz (hfarm.imp (fun h => ⟨h, hne.1⟩) Or.inr), directionEnds_stays (by exact hne.2)]
        rfl
    · have hv : takeEvidence (config s).role (expects f u) = seen :=
        takeEvidence_stays (.inl (by simp [expects, show u.train.phase = _ from hp]))
      have hc : seen.train.phase = .sending := hp
      refine ⟨?_, ?_⟩
      · rw [exec_probe_train hs hz, trainProbe_stays (by rw [hv, hc]; exact .inr nofun) (by rw [hv, hc]; nofun), hv]
      · rw [exec_closingProbe_train hs hz, trainClosing_stays (by rw [hv, hc]; exact .inr nofun) (by rw [hv, hr]; exact takesClosing_sending hc), hv]

end Sys2Proof.Machine

namespace Sys2Proof.Machine

/-! ### The ECHO exchange (R98, R99, R100) -/

section
variable {p : Pair} {f : Frame} {s : State} {u : LineUnit}

theorem exec_echoAsk_train (h : (line s p).state = .train) (hz : frameSizeOk .echoAsk f = true) :
    exec (.echoAsk p f) s = .next (setLine p (trainEchoAsk (config s).role s.timeBase (expects f (line s p))) s) :=
  congrArg Host.Outcome.next (receive_train_mod (g := fun t => trainEchoAsk (config t).role t.timeBase) h hz)

theorem exec_echo_train (h : (line s p).state = .train) (hz : frameSizeOk .echo f = true) :
    exec (.echo p f) s = .next (setLine p (trainEcho s.timeBase (bodyWord f.body 0) (expects f (line s p))) s) :=
  congrArg Host.Outcome.next (receive_train_mod (g := fun t => trainEcho t.timeBase (bodyWord f.body 0)) h hz)

theorem tryQualify_enters (hs : u.state = .train) (hm : u.train.measured = true) (he : u.train.echoSent = true) :
    tryQualify u =
      { u with
        state := .qualify
        training := .stopped
        train := .start
        qualify := ⟨0, 0, false, false, 0⟩
        qualification := .running 4000000 } := if_pos ⟨hs, hm, he⟩

theorem tryQualify_stays (h : u.train.measured = false ∨ u.train.echoSent = false) : tryQualify u = u := by
  refine if_neg ?_
  rintro ⟨-, hm, he⟩
  rcases h with h | h
  · simp [h] at hm
  · simp [h] at he

/-- R98: before the closing PROBE of the farm end is out, or at the cabinet end, an ECHO-ASK is only answered. -/
theorem trainEchoAsk_answers {role : Role} {now : Stamp} (hp : u.train.phase ≠ .params)
    (h : role = .cabinet ∨ u.train.phase ≠ .closing) :
    trainEchoAsk role now u = { u with train := { u.train with echoReply := some now } } := by
  rw [trainEchoAsk, if_neg hp, if_neg]
  · rfl
  · rintro ⟨hr, hc⟩
    rcases h with h | h
    · rw [hr] at h
      cases h
    · exact h hc

/-- R96, R98: an ECHO-ASK acknowledges the farm end's closing PROBE. -/
theorem trainEchoAsk_acknowledges {now : Stamp} (hc : u.train.phase = .closing) :
    trainEchoAsk .farm now u =
      { u with
        train :=
          { u.train with
            phase := .echo
            closingPending := false
            closingWait := .stopped
            echoAskPending := true
            echoReply := some now } } := by
  rw [trainEchoAsk, if_neg (by simp [hc]), if_pos ⟨rfl, hc⟩]
  rfl

theorem trainEcho_ignored {now : Stamp} {x : Nat}
    (h : u.train.measured = true ∨ u.train.t1 = none ∨ u.train.echoDeadline = .stopped) : trainEcho now x u = u := by
  unfold trainEcho
  rcases h with h | h | h
  · cases u.train.t1 <;> simp [h]
  · simp [h]
  · cases u.train.t1 <;> simp [h, isRunning]

/-- R99: the ECHO in time measures D. -/
theorem trainEcho_measures {now t1 : Stamp} {x n : Nat} (ht : u.train.t1 = some t1) (hd : u.train.echoDeadline = .running n)
    (hm : u.train.measured = false) :
    trainEcho now x u =
      tryQualify
        { u with
          delay := pathDelay (now - t1).toNat x u.trainedRecv
          train := { u.train with measured := true, echoDeadline := .stopped } } := by
  simp [trainEcho, ht, hd, hm, isRunning]

end

/-- Settles O50: each end of a frame and each frame of the exchange. -/
theorem echoMeasuresTheDelay : Obligations.EchoMeasuresTheDelay := by
  intro p f s n r i x t1 hs u t rate spent taken delay qualifies sent
  have hcut : (line (setLine p { u with tx := none } s) p).state = .train := by rw [line_setLine_same]; exact hs
  have hechoEnds (htx : u.tx = some ⟨.echo x, i, r⟩) :
      exec (.echoSent p) s =
        .next (setLine p (tryQualify { u with tx := none, train := { t with echoSent := true } }) s) := by
    refine congrArg Host.Outcome.next ((endOf_content htx rfl).trans ((if_pos hcut).trans ?_))
    rw [modLine_setLine]
    rfl
  refine ⟨fun htx => ?_, fun htx => ⟨fun hm => ?_, fun hm => ?_⟩, fun hz hp => ⟨fun hr => ?_, fun hr hc => ?_⟩, fun hz hp => ?_,
    fun hz h => ?_, fun hz ht hd hm => ⟨fun he => ?_, fun he => ?_⟩⟩
  · refine congrArg Host.Outcome.next ((endOf_content htx rfl).trans ((if_pos hcut).trans ?_))
    rw [modLine_setLine]
    rfl
  · rw [hechoEnds htx, tryQualify_stays (.inl (by exact hm))]
  · rw [hechoEnds htx, tryQualify_enters (by exact hs) (by exact hm) rfl]
  · rw [exec_echoAsk_train hs hz, trainEchoAsk_answers (u := expects f u) hp hr]
    rfl
  · rw [exec_echoAsk_train hs hz, show (config s).role = .farm from hr, trainEchoAsk_acknowledges (u := expects f u) hc]
    rfl
  · rw [exec_echoAsk_train hs hz, trainEchoAsk, if_pos (by exact hp)]
    rfl
  · rw [exec_echo_train hs hz, trainEcho_ignored (u := expects f u) h]
    rfl
  · rw [exec_echo_train hs hz, trainEcho_measures (u := expects f u) ht hd hm, tryQualify_stays (.inr (by exact he))]
    rfl
  · rw [exec_echo_train hs hz, trainEcho_measures (u := expects f u) ht hd hm, tryQualify_enters (by exact hs) rfl (by exact he)]
    rfl

end Sys2Proof.Machine

namespace Sys2Proof.Machine

/-! ### Failures before service (R86) -/

section
variable {p : Pair} {s : State} {u : LineUnit}

theorem enterQuiet_eq (s : State) (u : LineUnit) :
    enterQuiet s u =
      { u with
        state := .quiet
        holdOff := if s.group.mode = .active then .running ((config s).holdOffBase * 2 ^ u.k * 1000) else .held } := by
  simp only [enterQuiet, isActive, beq_iff_eq, Config.ms]

/-- R86: the line unit after a failure, field by field. -/
theorem failLine_eq (parting : Option Nat) (s : State) (u : LineUnit) :
    failLine parting s u =
      { u with
        state := .quiet
        k := min 7 (u.k + 1)
        holdOff :=
          if s.group.mode = .active then .running ((config s).holdOffBase * 2 ^ min 7 (u.k + 1) * 1000) else .held
        monitor := .stopped
        lit := false
        detect := .stopped
        training := .stopped
        qualification := .stopped
        train := .start
        qualify := .start
        serviceClock := .stopped
        svc := .clear
        ctl := .empty
        tx := parting.map (fun rate => ⟨.leave, u.txCount, rate⟩)
        txCount := if parting.isSome then u.txCount + 1 else u.txCount } := by
  cases parting <;> rw [failLine, enterQuiet_eq] <;> rfl

theorem exec_detectTimeout_due (hs : (line s p).state = .detect) (hd : (line s p).detect = .running 0) :
    exec (.detectTimeout p) s = .next (failTraining p .detectTimeout s) :=
  congrArg Host.Outcome.next (whenLine_due (by simp [hs, hd, isDue]))

theorem exec_echoTimeout_due (hs : (line s p).state = .train) (hd : (line s p).train.echoDeadline = .running 0) :
    exec (.echoTimeout p) s = .next (failTraining p .echoTimeout s) :=
  congrArg Host.Outcome.next (whenLine_due (by simp [hs, hd, isDue]))

theorem exec_trainingTimeout_due (hs : (line s p).state = .train) (hd : (line s p).training = .running 0) :
    exec (.trainingTimeout p) s = .next (failTraining p .trainingTimeout s) :=
  congrArg Host.Outcome.next (whenLine_due (by simp [hs, hd, isDue]))

theorem exec_qualificationTimeout_due (hs : (line s p).state = .qualify) (hd : (line s p).qualification = .running 0) :
    exec (.qualificationTimeout p) s = .next (failQualify p .timeLimit s) :=
  congrArg Host.Outcome.next (whenLine_due (by simp [hs, hd, isDue]))

end

/-- Settles O52: each time limit is a failure with its cause, and each failure the line unit field by field. -/
theorem failureRaisesKAndReturnsToQuiet : Obligations.FailureRaisesKAndReturnsToQuiet := by
  intro p s n cause why u quiet failed unqualified
  have htrain (c : TrainCause) : failTraining p c s =
      failed (if c = .detectTimeout ∨ c = .farLeave then none else some 1) (trainCauseCode c) := by
    have hp : trainParting c = if c = .detectTimeout ∨ c = .farLeave then none else some 1 := by cases c <;> rfl
    rw [failTraining, hp, failLine_eq]
  have hqualify (c : QualifyCause) : failQualify p c s =
      unqualified (if c = .farLeave then none else some u.trainedSend) (qualifyCauseCode c) := by
    rw [failQualify, failLine_eq]
  have hidle {t : Timer} (h : t = .running (n + 1)) : isDue t = false := by rw [h]; rfl
  refine ⟨fun hs hd => ?_, fun hs hd => ?_, fun hs hd => ?_, fun hs hd => ?_, fun hd => ?_, fun hd => ?_, fun hd => ?_, fun hd => ?_,
    htrain cause, hqualify why⟩
  · rw [exec_detectTimeout_due hs hd, htrain]
    rfl
  · rw [exec_echoTimeout_due hs hd, htrain]
    rfl
  · rw [exec_trainingTimeout_due hs hd, htrain]
    rfl
  · rw [exec_qualificationTimeout_due hs hd, hqualify]
    rfl
  · exact congrArg Host.Outcome.next (whenLine_idle (by rw [hidle hd, Bool.and_false]))
  · exact congrArg Host.Outcome.next (whenLine_idle (by rw [hidle hd, Bool.and_false]))
  · exact congrArg Host.Outcome.next (whenLine_idle (by rw [hidle hd, Bool.and_false]))
  · exact congrArg Host.Outcome.next (whenLine_idle (by rw [hidle hd, Bool.and_false]))

/-! ### QUALIFY (R101, R102) -/

/-- R101: the line unit of QUALIFY that has taken a good frame's count, with `bad` bad frames. -/
def counts (f : Frame) (bad : Nat) (u : LineUnit) : LineUnit :=
  { expects f u with qualify := { u.qualify with bad := bad } }

section
variable {p : Pair} {s : State} {f : Frame} {k : FrameKind} {act : State → State}

theorem line_failQualify_state (p : Pair) (c : QualifyCause) (s : State) : (line (failQualify p c s) p).state = .quiet := by
  simp only [failQualify, line_recordEvent, line_countPair, line_setLine_same, failLine_eq]

/-- R101: lost frames that bring the fifth bad one fail QUALIFY. -/
theorem checkCount_fails (hs : (line s p).state = .qualify) (ho : (line s p).qualify.ownPass = false)
    (hb : 5 ≤ (line s p).qualify.bad + framesLost (line s p) f) :
    checkCount p f s =
      failQualify p .errors (setLine p (counts f ((line s p).qualify.bad + framesLost (line s p) f) (line s p)) s) := by
  rw [checkCount_counting p f s (by simp [counting, hs, ho]), addBad_reached p _ _ (by rw [line_setLine_same]; exact hb),
    line_setLine_same, setLine_setLine]
  rfl

/-- R101: the frame that shows them is not acted on, whatever its kind and size. -/
theorem receiveCounted_fails (hs : (line s p).state = .qualify) (ho : (line s p).qualify.ownPass = false)
    (hb : 5 ≤ (line s p).qualify.bad + framesLost (line s p) f) :
    receiveCounted p f act s =
      failQualify p .errors (setLine p (counts f ((line s p).qualify.bad + framesLost (line s p) f) (line s p)) s) := by
  have hh : hears (line s p) = true := by simp [hears, hs]
  rw [receiveCounted, if_pos hh, checkCount_fails hs ho hb, if_neg]
  simp [hears, line_failQualify_state]

/-- R101: below five bad frames a frame of its kind's size is acted on. -/
theorem receive_qualify (hs : (line s p).state = .qualify) (ho : (line s p).qualify.ownPass = false)
    (hb : (line s p).qualify.bad + framesLost (line s p) f < 5) (hz : frameSizeOk k f = true) :
    receive k p f act s = act (setLine p (counts f ((line s p).qualify.bad + framesLost (line s p) f) (line s p)) s) := by
  have hc : counting (line s p) = true := by simp [counting, hs, ho]
  rw [receive_counting k p f act s hc hb hz, checkCount_counting p f s hc, addBad_below p _ _ (by rw [line_setLine_same]; exact hb),
    line_setLine_same, setLine_setLine]
  rfl

/-- R101: after the own pass a frame's count is only expected. -/
theorem receive_passed (hs : (line s p).state = .qualify) (ho : (line s p).qualify.ownPass = true) (hz : frameSizeOk k f = true) :
    receive k p f act s = act (setLine p (expects f (line s p)) s) :=
  receive_plain k p f act s (by simp [hears, hs]) (by simp [inService, hs]) (by simp [counting, ho]) hz

end

section
variable {p : Pair} {s : State} {margin : BitVec 6} {u : LineUnit}

theorem enterService_setLine (p : Pair) (margin : BitVec 6) (u : LineUnit) (s : State) :
    enterService p margin (setLine p u s) =
      evidenceSkip
        (recordEvent .serviceEntry (pairIndex p) u.trainedSend
          (countPair p (fun c => { c with serviceEntries := satInc c.serviceEntries })
            (setLine p (enterServiceLine margin s u) s))) := by
  simp only [enterService, line_setLine_same, setLine_setLine, line_countPair]
  rfl

theorem addGood_below (h : u.qualify.good < 511) :
    addGood p margin (setLine p u s) = setLine p { u with qualify := { u.qualify with good := u.qualify.good + 1 } } s := by
  simp only [addGood, modLine_setLine, line_setLine_same]
  exact if_neg (by simp only [Config.passTests]; omega)

/-- R101, R102: the 512th good TEST frame. -/
theorem addGood_passes (h : u.qualify.good = 511) :
    addGood p margin (setLine p u s) =
      if u.qualify.farQualified then
        enterService p margin (setLine p (ownPass { u with qualify := { u.qualify with good := u.qualify.good + 1 } }) s)
      else setLine p (ownPass { u with qualify := { u.qualify with good := u.qualify.good + 1 } }) s := by
  simp only [addGood, modLine_setLine, line_setLine_same]
  rw [if_pos (by simp only [Config.passTests]; omega)]
  rfl

theorem addBad_setLine (n : Nat) :
    addBad p n (setLine p u s) =
      if 5 ≤ u.qualify.bad + n then
        failQualify p .errors (setLine p { u with qualify := { u.qualify with bad := u.qualify.bad + n } } s)
      else setLine p { u with qualify := { u.qualify with bad := u.qualify.bad + n } } s := by
  simp only [addBad, modLine_setLine, line_setLine_same]

end

/-- R101: a TEST frame before the own pass, with fewer than five bad frames. -/
theorem exec_test_counting (p : Pair) (f : Frame) (margin : BitVec 6) (s : State) (hs : (line s p).state = .qualify)
    (ho : (line s p).qualify.ownPass = false) (hb : (line s p).qualify.bad + framesLost (line s p) f < 5)
    (hz : frameSizeOk .test f = true) :
    exec (.test p f margin) s = .next (
      if f.body = testBody (frameSeq f) then
        addGood p margin (setLine p (counts f ((line s p).qualify.bad + framesLost (line s p) f) (line s p)) s)
      else addBad p 1 (setLine p (counts f ((line s p).qualify.bad + framesLost (line s p) f) (line s p)) s)) := by
  refine congrArg Host.Outcome.next ((receive_qualify hs ho hb hz).trans (if_pos ?_))
  simp [counting, counts, expects, hs, ho]

/-- R102: a QUALIFIED in QUALIFY, at the line unit that has taken its count. -/
theorem exec_qualified_at (p : Pair) (f : Frame) (margin : BitVec 6) (s : State) (u : LineUnit) (hs : u.state = .qualify)
    (h : ∀ act, receive .qualified p f act s = act (setLine p u s)) :
    exec (.qualified p f margin) s = .next (
      if u.qualify.ownPass then
        enterService p margin (setLine p { u with qualify := { u.qualify with farQualified := true } } s)
      else setLine p { u with qualify := { u.qualify with farQualified := true } } s) := by
  refine congrArg Host.Outcome.next ((h _).trans ((if_pos ?_).trans ?_))
  · rw [line_setLine_same]
    exact hs
  · simp only [modLine_setLine, line_setLine_same]

/-- Settles O51: the TEST and the QUALIFIED by the own pass, the bad and the good frames and the far end's pass. -/
theorem qualifyPassesIntoService : Obligations.QualifyPassesIntoService := by
  intro p f margin s hs u bad seen counted passed told serves
  refine ⟨fun ho hb => ⟨?_, ?_⟩, fun hz ho => ?_, fun hz ho hb => ⟨fun hbody => ⟨fun hg => ?_, fun hg hf => ?_, fun hg hf => ?_⟩,
    fun hbody => ⟨fun hb4 => ?_, fun hb4 => ?_⟩⟩, fun hz => ⟨fun ho => ?_, fun ho hb => ?_⟩⟩
  · exact congrArg Host.Outcome.next (receiveCounted_fails hs ho hb)
  · exact congrArg Host.Outcome.next (receiveCounted_fails hs ho hb)
  · refine congrArg Host.Outcome.next ((receive_passed hs ho hz).trans (if_neg ?_))
    simp [counting, expects, show (line s p).qualify.ownPass = _ from ho]
  · rw [exec_test_counting p f margin s hs ho hb hz, if_pos hbody, addGood_below (by exact hg)]
    rfl
  · rw [exec_test_counting p f margin s hs ho hb hz, if_pos hbody, addGood_passes (by exact hg), if_neg]
    · rfl
    · rw [show (counts f bad u).qualify.farQualified = false from hf]
      nofun
  · rw [exec_test_counting p f margin s hs ho hb hz, if_pos hbody, addGood_passes (by exact hg), if_pos (by exact hf),
      enterService_setLine]
    rfl
  · rw [exec_test_counting p f margin s hs ho hb hz, if_neg hbody, addBad_setLine, if_neg]
    · rfl
    · exact Nat.not_le.2 (Nat.succ_lt_succ hb4)
  · rw [exec_test_counting p f margin s hs ho hb hz, if_neg hbody, addBad_setLine, if_pos]
    · have h5 : bad + 1 = 5 := congrArg (· + 1) hb4
      simp only [counted, ← h5]
      rfl
    · exact (congrArg (· + 1) hb4).ge
  · rw [exec_qualified_at p f margin s (expects f u) hs (fun _ => receive_passed hs ho hz), if_pos (by exact ho), enterService_setLine]
    rfl
  · rw [exec_qualified_at p f margin s (counts f bad u) hs (fun _ => receive_qualify hs ho hb hz), if_neg]
    · rfl
    · rw [show (counts f bad u).qualify.ownPass = false from ho]
      nofun

end Sys2Proof.Machine

namespace Sys2Proof.Machine

/-! ## The line units in service -/

/-! ### The start of a wind-down (R118, R119, R121) -/

/-- R121: whether the own LEAVE of a wind-down is due. -/
def leaveDue (u : LineUnit) : Bool :=
  u.state == .windDown && u.queue.isEmpty && u.ctl.windDown.isNone &&
    (u.svc.windDown.map (fun w => !w.farLeave && !w.leaveStarted)).getD false

theorem placeOwnLeave_eq (u : LineUnit) :
    placeOwnLeave u = { u with ctl := { u.ctl with leave := u.ctl.leave || leaveDue u } } := by
  unfold placeOwnLeave
  split
  next hw => simp only [leaveDue, hw, Option.map_none, Option.getD_none, Bool.and_false, Bool.or_false]
  next w hw =>
    by_cases h : u.state = .windDown ∧ u.queue = [] ∧ u.ctl.windDown = none ∧ w.farLeave = false ∧ w.leaveStarted = false
    · have hdue : leaveDue u = true := by simp [leaveDue, hw, h]
      rw [if_pos h, hdue, Bool.or_true]
    · have hdue : leaveDue u = false := by
        rw [Bool.eq_false_iff]
        intro hdue
        refine h ?_
        simpa [leaveDue, hw, and_assoc] using hdue
      rw [if_neg h, hdue, Bool.or_false]

theorem placeOwnLeave_of {u : LineUnit} {b : Bool} (h : leaveDue u = b) :
    placeOwnLeave u = { u with ctl := { u.ctl with leave := u.ctl.leave || b } } := h ▸ placeOwnLeave_eq u

section
variable {p : Pair} {s : State} {f : Frame} {u : LineUnit}

/-- R118, R119: the start of a wind-down, field by field. -/
theorem startWindDown_eq (p : Pair) (reason : WindDownReason) (s : State) :
    startWindDown p reason s =
      countPair p (countWindDown reason)
        (setLine p
          { line s p with
            state := .windDown
            ctl :=
              { (line s p).ctl with
                leave :=
                  (line s p).ctl.leave ||
                    (decide (reason = .farRequest) && (line s p).queue.isEmpty && (line s p).ctl.windDown.isNone)
                windDown := if reason = .farRequest then (line s p).ctl.windDown else some reason
                rateAsk := none }
            svc :=
              { (line s p).svc with
                losHold := .stopped
                windowPeriods := 0
                windowErrored := 0
                reRateCheck := .stopped
                downStreak := 0
                upStreak := 0
                request := false
                reRateTimer := .stopped
                windDown := some ⟨reason, .running 20000, false, false, false, none⟩ } } s) := by
  have hdue (v : LineUnit) (hs : v.state = .windDown) (hq : v.queue = (line s p).queue)
      (hc : v.ctl.windDown = if reason = .farRequest then (line s p).ctl.windDown else some reason)
      (hw : v.svc.windDown = some ⟨reason, .running 20000, false, false, false, none⟩) :
      leaveDue v = (decide (reason = .farRequest) && (line s p).queue.isEmpty && (line s p).ctl.windDown.isNone) := by
    by_cases hr : reason = .farRequest <;> simp [leaveDue, hs, hq, hc, hw, hr]
  exact congrArg (fun v => countPair p (countWindDown reason) (setLine p v s)) (placeOwnLeave_of (hdue _ rfl rfl rfl rfl))

/-! ### Re-rate checks (R111 to R113) -/

/-- R111: the line unit after a check that leaves these streaks. -/
def checkedWith (s : State) (margin : BitVec 6) (down up : Nat) (u : LineUnit) : LineUnit :=
  { u with
    margin := margin.toNat
    svc :=
      { u.svc with
        reRateCheck := .running (2 ^ (config s).reRateExp * 64 * 1000)
        downStreak := down
        upStreak := up } }

theorem exec_reRateCheck_due {margin : BitVec 6} {down up : Nat} (hs : (line s p).state = .service)
    (hd : (line s p).svc.reRateCheck = .running 0) (h : streaksAfter margin.toNat (line s p) = (down, up)) :
    exec (.reRateCheck p margin) s = .next (actOnStreaks p (setLine p (checkedWith s margin down up (line s p)) s)) := by
  refine congrArg Host.Outcome.next ((whenLine_due (by simp [hs, hd, isDue])).trans ?_)
  simp only [modLine, checkedLine, h]
  rfl

theorem actOnStreaks_none (hd : u.svc.downStreak < 3) (hu : u.svc.upStreak < 3) : actOnStreaks p (setLine p u s) = setLine p u s := by
  simp only [actOnStreaks, line_setLine_same]
  rw [if_neg (by omega), if_neg (by omega)]

theorem actOnStreaks_down (hd : 3 ≤ u.svc.downStreak) (ht : (config s).minRate ≤ downTarget u.recvRate) :
    actOnStreaks p (setLine p u s) = setLine p (requestRate (downTarget u.recvRate) u) s := by
  simp only [actOnStreaks, line_setLine_same, modLine_setLine]
  rw [if_pos hd, if_pos (by exact ht)]

theorem actOnStreaks_winds (hd : 3 ≤ u.svc.downStreak) (ht : downTarget u.recvRate < (config s).minRate) :
    actOnStreaks p (setLine p u s) = startWindDown p .margin (setLine p u s) := by
  simp only [actOnStreaks, line_setLine_same]
  rw [if_pos hd, if_neg (by exact Nat.not_le.2 ht)]

theorem actOnStreaks_up (hd : u.svc.downStreak < 3) (hu : 3 ≤ u.svc.upStreak) :
    actOnStreaks p (setLine p u s) = setLine p (requestRate (upTarget u.trainedRecv u.recvRate) u) s := by
  simp only [actOnStreaks, line_setLine_same, modLine_setLine]
  rw [if_neg (by omega), if_pos hu]

/-! ### The count check of a frame in service (R74, R107) -/

theorem line_checkCount_inService (h : inService (line s p) = true) :
    line (checkCount p f s) p = goodMarks (framesLost (line s p) f) (expects f (line s p)) := by
  rw [checkCount_inService p f s h, line_countPair, line_setLine_same]
  rfl

theorem inService_of_service (h : (line s p).state = .service) : inService (line s p) = true := by simp [inService, h]

theorem inService_of_windDown (h : (line s p).state = .windDown) : inService (line s p) = true := by simp [inService, h]

end

/-- Settles O54: a check by the streaks it leaves and the rate they ask for, and the starts of a wind-down. -/
theorem reRateCheckAsksOrWindsDown : Obligations.ReRateCheckAsksOrWindsDown := by
  intro p margin f s n reason u m rate checked asking record
  have hchecked (down up : Nat) : checkedWith s margin down up u = checked down up := rfl
  have hcheck (down up : Nat) (hs : u.state = .service) (hd : u.svc.reRateCheck = .running 0) (h : streaksAfter m u = (down, up)) :
      exec (.reRateCheck p margin) s = .next (actOnStreaks p (setLine p (checked down up) s)) := exec_reRateCheck_due hs hd h
  have hlow (hr : u.svc.request = false) (hm : m < 6) : streaksAfter m u = (u.svc.downStreak + 1, 0) := by
    rw [streaksAfter, if_neg (by rw [hr]; nofun), if_pos hm]
  have hhigh (hr : u.svc.request = false) (hm : 18 < m) (hrate : rate < u.trainedRecv) : streaksAfter m u = (0, u.svc.upStreak + 1) := by
    rw [streaksAfter, if_neg (by rw [hr]; nofun), if_neg (by omega), if_pos ⟨hm, hrate⟩]
  refine ⟨fun hd => ?_, fun hd => ?_, fun hs hd => ⟨fun hr => ?_, fun hr hm h2 => ?_, fun hr hm h2 ht => ?_, fun hr hm h2 ht => ?_,
    fun hr hm hrate h2 => ?_, fun hr hm hrate h2 => ?_, fun hr hm hrate => ?_⟩, fun hs hr hd => ?_, fun hz => ⟨fun hs => ?_, fun hs => ?_⟩, ?_⟩
  · exact congrArg Host.Outcome.next (whenLine_idle (by simp [isDue, show (line s p).svc.reRateCheck = _ from hd]))
  · exact congrArg Host.Outcome.next (whenLine_idle (by simp [isDue, show (line s p).svc.reRateTimer = _ from hd]))
  · rw [hcheck 0 0 hs hd (if_pos hr), actOnStreaks_none (Nat.zero_lt_succ 2) (Nat.zero_lt_succ 2)]
  · rw [hcheck _ _ hs hd (hlow hr hm), actOnStreaks_none (Nat.succ_lt_succ h2) (Nat.zero_lt_succ 2)]
  · rw [hcheck 3 0 hs hd ((hlow hr hm).trans (by rw [h2])), actOnStreaks_down (u := checked 3 0) le_rfl ht]
    rfl
  · rw [hcheck 3 0 hs hd ((hlow hr hm).trans (by rw [h2])), actOnStreaks_winds (u := checked 3 0) le_rfl ht]
  · rw [hcheck _ _ hs hd (hhigh hr hm hrate), actOnStreaks_none (Nat.zero_lt_succ 2) (Nat.succ_lt_succ h2)]
  · rw [hcheck 0 3 hs hd ((hhigh hr hm hrate).trans (by rw [h2])), actOnStreaks_up (u := checked 0 3) (Nat.zero_lt_succ 2) le_rfl]
    rfl
  · have hmid : streaksAfter m u = (0, 0) := by
      rw [streaksAfter, if_neg (by rw [hr]; nofun), if_neg (by omega), if_neg (by change ¬(18 < m ∧ rate < u.trainedRecv); omega)]
    rw [hcheck 0 0 hs hd hmid, actOnStreaks_none (Nat.zero_lt_succ 2) (Nat.zero_lt_succ 2)]
  · exact congrArg Host.Outcome.next (whenLine_due (by
      simp [isDue, show (line s p).state = _ from hs, show (line s p).svc.request = _ from hr, show (line s p).svc.reRateTimer = _ from hd]))
  · have hl := line_checkCount_inService (f := f) (inService_of_service hs)
    refine congrArg Host.Outcome.next ((receive_inService _ _ _ _ _ (inService_of_service hs) hz).trans (if_pos ?_))
    rw [hl]
    exact hs
  · have hl := line_checkCount_inService (f := f) (inService_of_windDown hs)
    refine congrArg Host.Outcome.next ((receive_inService _ _ _ _ _ (inService_of_windDown hs) hz).trans (if_neg ?_))
    rw [hl]
    exact fun h => absurd ((show u.state = .service from h).symm.trans hs) nofun
  · rw [startWindDown_eq]
    cases reason <;> rfl

end Sys2Proof.Machine

namespace Sys2Proof.Machine

/-! ### RATE-ASK and RATE-SWITCH (R113 to R116) -/

section
variable {p : Pair} {s : State} {u : LineUnit}

theorem config_checkCount (p : Pair) (f : Frame) (s : State) : config (checkCount p f s) = config s := by
  simp only [config, checkCount_group]

theorem rateSwitchOnPair_some {x : TxFrame} (h : u.tx = some x) : rateSwitchOnPair u = isRateSwitch x.content := by
  obtain ⟨c, i, r⟩ := x
  simp only [rateSwitchOnPair, h]
  cases c <;> rfl

theorem rateSwitchOnPair_false (h : ∀ x, u.tx = some x → isRateSwitch x.content = false) : rateSwitchOnPair u = false := by
  cases htx : u.tx with
  | none => simp only [rateSwitchOnPair, htx]
  | some x => rw [rateSwitchOnPair_some htx, h x htx]

theorem recordTarget_placed {target : Nat} (h : rateSwitchOnPair u = false) :
    recordTarget target u =
      { u with svc := { u.svc with pendingTarget := some target }, ctl := { u.ctl with rateSwitch := some target } } := by
  rw [recordTarget, h, if_neg nofun]

theorem recordTarget_left {target : Nat} (h : rateSwitchOnPair u = true) :
    recordTarget target u = { u with svc := { u.svc with pendingTarget := some target } } := by
  rw [recordTarget, h, if_pos rfl]

theorem countPair_id (p : Pair) (s : State) : countPair p (fun c => c) s = s := by
  simp only [countPair, quadSet_quadGet]

/-- R115: a RATE-SWITCH's end counts its change of the rate, if it is one. -/
theorem rateSwitchEnds_eq (p : Pair) (rate : Nat) (s : State) :
    rateSwitchEnds p rate s =
      recordEvent .reRateDone (pairIndex p) rate
        (countPair p
          (fun c =>
            if rate < (line s p).sendRate then { c with downRates := satInc c.downRates }
            else if (line s p).sendRate < rate then { c with upRates := satInc c.upRates }
            else c)
          (setLine p (rateSwitchLine rate (line s p)) s)) := by
  simp only [rateSwitchEnds, modLine]
  by_cases hd : rate < (line s p).sendRate
  · simp only [if_pos hd]
  · by_cases hu : (line s p).sendRate < rate
    · simp only [if_neg hd, if_pos hu]
    · simp only [if_neg hd, if_neg hu, countPair_id]

/-- R115: the target still pending after a RATE-SWITCH that carried `rate`. -/
def newerTarget (rate : Nat) (u : LineUnit) : Option Nat :=
  match u.svc.pendingTarget with
  | some x => if x = rate then none else some x
  | none => none

theorem rateSwitchLine_eq (rate : Nat) (u : LineUnit) :
    rateSwitchLine rate u =
      { u with
        sendRate := rate
        svc := { u.svc with pendingTarget := newerTarget rate u }
        ctl :=
          { u.ctl with
            rateSwitch := if newerTarget rate u = none then u.ctl.rateSwitch else newerTarget rate u } } := by
  cases ht : u.svc.pendingTarget with
  | none =>
    simp only [rateSwitchLine, newerTarget, ht, if_true]
    rw [← ht]
  | some x =>
    by_cases hx : x = rate
    · simp only [rateSwitchLine, newerTarget, ht, if_pos hx, if_true]
    · simp only [rateSwitchLine, newerTarget, ht, if_neg hx, reduceCtorEq, if_false]
      rw [← ht]

end

/-- Settles O55: the received frames at the line unit that has taken their count, and the ends of the sent ones. -/
theorem rateFramesMoveTheRates : Obligations.RateFramesMoveTheRates := by
  intro p f s q r i u t v carried target newer switched
  have hv (h : inService u = true) : v = goodMarks (framesLost u f) (expects f u) := line_checkCount_inService h
  have hreceive {k : FrameKind} {act : State → State} (h : inService u = true) (hz : frameSizeOk k f = true) :
      receive k p f act s = act t := receive_inService k p f act s h hz
  refine ⟨fun hz hs => ?_, fun hz hs => ?_, fun hz hs => ?_, fun htx hs hr => ?_, fun htx h => ?_, fun htx hs => ?_⟩
  · have hin : inService u = true := inService_of_service hs
    have hvs : v.state = .service := by rw [hv hin]; exact hs
    have hvx : v.tx = u.tx := by rw [hv hin]; rfl
    have htarget : askedTarget (config t).minRate f v = target := by rw [config_checkCount, hv hin]; rfl
    have hexec : exec (.rateAsk p f) s = .next (setLine p (recordTarget target v) t) := by
      refine congrArg Host.Outcome.next ((hreceive hin hz).trans ((if_pos hvs).trans ?_))
      rw [modLine, ← htarget]
    rw [hexec]
    refine ⟨fun h => ?_, fun x hx h => ?_⟩
    · rw [recordTarget_placed (rateSwitchOnPair_false (by rw [hvx]; exact h))]
    · rw [recordTarget_left ((rateSwitchOnPair_some (hvx.trans hx)).trans h)]
  · have hin : inService u = true := inService_of_windDown hs
    have hvs : v.state = .windDown := by rw [hv hin]; exact hs
    exact congrArg Host.Outcome.next ((hreceive hin hz).trans (if_neg (by change ¬v.state = .service; rw [hvs]; nofun)))
  · have hvs : inService v = true := by rw [hv hs]; exact hs
    have hvr : v.svc.request = u.svc.request := by rw [hv hs]; rfl
    have hvt : v.trainedRecv = u.trainedRecv := by rw [hv hs]; rfl
    have hexec : exec (.rateSwitch p f) s = .next (setLine p (endRequest { v with recvRate := min u.trainedRecv carried }) t) := by
      refine congrArg Host.Outcome.next ((hreceive hs hz).trans ((if_pos hvs).trans ?_))
      rw [modLine, ← hvt]
    rw [hexec]
    refine ⟨fun h => ?_, fun h => ?_⟩
    · rw [endRequest, if_neg]
      change ¬v.svc.request = true
      rw [hvr, h]
      nofun
    · rw [endRequest, if_pos (by exact hvr.trans h)]
  · refine congrArg Host.Outcome.next ((endOf_content htx rfl).trans ?_)
    refine (modLine_setLine _ _ _ _).trans (congrArg (fun v => setLine p v s) (if_pos ⟨hs, hr⟩))
  · refine congrArg Host.Outcome.next ((endOf_content htx rfl).trans ?_)
    refine (modLine_setLine _ _ _ _).trans (congrArg (fun v => setLine p v s) (if_neg ?_))
    rintro ⟨hs, hr⟩
    rcases h with h | h
    · exact absurd (hs.symm.trans h) nofun
    · exact absurd (hr.symm.trans h) nofun
  · refine congrArg Host.Outcome.next ((endOf_content htx rfl).trans ?_)
    have hcut : inService (line (setLine p { u with tx := none } s) p) = true := by rw [line_setLine_same]; exact hs
    refine (if_pos hcut).trans ?_
    have hnewer : newerTarget q { u with tx := none } = newer := rfl
    rw [rateSwitchEnds_eq, line_setLine_same, setLine_setLine, rateSwitchLine_eq, hnewer]

end Sys2Proof.Machine

namespace Sys2Proof.Machine

/-! ### Exits from service to QUIET (R76, R77, R85, R125) -/

/-- R76, R77, R84, R85: the line unit after an exit to QUIET. -/
def leftLine (s : State) (parting : Bool) (u : LineUnit) : LineUnit :=
  { u with
    state := .quiet
    k := keptK u
    holdOff := if s.group.mode = .active then .running ((config s).holdOffBase * 2 ^ keptK u * 1000) else .held
    monitor := .stopped
    lit := false
    detect := .stopped
    training := .stopped
    qualification := .stopped
    train := .start
    qualify := .start
    serviceClock := .stopped
    svc := .clear
    queue := []
    ctl := .empty
    tx := if parting then some ⟨.leave, u.txCount, u.sendRate⟩ else none
    txCount := if parting then u.txCount + 1 else u.txCount }

/-- R76: a pair that has left, its fragments counted as discarded. -/
def leftPair (p : Pair) (t : State) (parting : Bool) : State :=
  countPair p (fun c => { c with discarded := c.discarded + BitVec.ofNat 32 (line t p).queue.length })
    (setLine p (leftLine t parting (line t p)) t)

/-- R125, R157: the event of an exit, and the evidence skip. -/
def leftRecorded (p : Pair) (reason : Nat) (t : State) : State :=
  evidenceSkip (recordEvent .leftService (pairIndex p) reason t)

section
variable {p : Pair} {s : State} {u : LineUnit} {w : WindDownRecord} {reason : ExitReason}

theorem raiseKAtExit_eq (u : LineUnit) : raiseKAtExit u = { u with k := keptK u } := by
  obtain ⟨hc, h⟩ | ⟨hc, h⟩ | ⟨n, hc, h⟩ := raiseKAtExit_cases u
  · have hk : keptK u = u.k := by simp only [keptK, hc]
    rw [h, hk]
  · have hk : keptK u = 0 := by simp only [keptK, hc]
    rw [h, hk]
  · have hk : keptK u = min 7 (u.k + 1) := by simp only [keptK, hc]
    rw [h, hk, raiseK]

theorem exitLine_eq (hr : reason ≠ .conflict) (s : State) (u : LineUnit) :
    exitLine reason s u = leftLine s (partingLeave reason u) u := by
  simp only [exitLine, if_neg hr, raiseKAtExit_eq, enterQuiet_eq]
  cases partingLeave reason u <;> rfl

theorem exitPair_eq (hr : reason ≠ .conflict) (hl : reason ≠ .losLoss) (p : Pair) (s : State) :
    exitPair p reason s = leftRecorded p (exitCode reason) (leftPair p s (partingLeave reason (line s p))) := by
  simp only [exitPair, if_neg hl, exitLine_eq hr]
  rfl

theorem exitPair_losLoss (p : Pair) (s : State) :
    exitPair p .losLoss s =
      leftRecorded p 1 (countPair p (fun c => { c with losLosses := satInc c.losLosses }) (leftPair p s true)) := by
  simp only [exitPair, if_true, exitLine_eq (reason := .losLoss) nofun]
  rfl

theorem exitPair_windDownEnd (hw : (line s p).svc.windDown = some w) :
    exitPair p .windDownEnd s = leftRecorded p 2 (leftPair p s (!w.leaveStarted)) := by
  rw [exitPair_eq (reason := .windDownEnd) nofun nofun]
  simp only [partingLeave, ownLeaveStarted, hw]
  rfl

theorem exitPair_windDownLimit (hw : (line s p).svc.windDown = some w) :
    exitPair p .windDownLimit s = leftRecorded p 3 (leftPair p s (!w.leaveStarted)) := by
  rw [exitPair_eq (reason := .windDownLimit) nofun nofun]
  simp only [partingLeave, ownLeaveStarted, hw]
  rfl

theorem windDownDone_iff (hs : u.state = .windDown) (hw : u.svc.windDown = some w) :
    windDownDone u = true ↔ w.farLeave = true ∧ u.queue = [] ∧ (w.leaveStarted = false ∨ w.leaveEnded = true) := by
  simp [windDownDone, hs, hw, and_assoc]

theorem tryWindDownEnd_done (h : windDownDone (line s p) = true) : tryWindDownEnd p s = exitPair p .windDownEnd s := if_pos h

theorem tryWindDownEnd_stays (h : ¬windDownDone (line s p) = true) : tryWindDownEnd p s = s := if_neg h

theorem ownLeaveOnPair_eq (hs : u.state = .windDown) (hw : u.svc.windDown = some w) :
    ownLeaveOnPair u = (w.leaveStarted && !w.leaveEnded) := by
  simp [ownLeaveOnPair, hs, hw]

/-! ### The wind-down limit and the end of the own LEAVE (R122, R123) -/

theorem exec_windDownLimit_due (hs : (line s p).state = .windDown) (hw : (line s p).svc.windDown = some w) (ht : w.timer = .running 0) :
    exec (.windDownLimit p) s = .next (
      if w.leaveStarted && !w.leaveEnded then
        setLine p { line s p with
          svc := { (line s p).svc with windDown := some { w with timer := .stopped, deferred := some .windDownLimit } } } s
      else leftRecorded p 3 (leftPair p s (!w.leaveStarted))) := by
  have hdue : windDownDue (line s p) = true := by simp [windDownDue, hs, hw, ht, isDue]
  refine congrArg Host.Outcome.next ((whenLine_due hdue).trans ?_)
  simp only [ownLeaveOnPair_eq hs hw, exitPair_windDownLimit hw, modLine, deferExit, hw, Option.map_some]

/-- R122, R123: the own LEAVE of a wind-down has gone out. -/
theorem exec_ownLeaveSent_windDown {i : BitVec 24} {r : Nat} (hs : (line s p).state = .windDown)
    (htx : (line s p).tx = some ⟨.leave, i, r⟩) :
    exec (.ownLeaveSent p) s = .next (ownLeaveEnds p (setLine p { line s p with tx := none } s)) := by
  have hcut : (line (setLine p { line s p with tx := none } s) p).state = .windDown := by rw [line_setLine_same]; exact hs
  exact congrArg Host.Outcome.next ((endOf_content htx rfl).trans (if_pos hcut))

theorem ownLeaveEnds_deferred (hw : u.svc.windDown = some w) (hd : w.deferred = some reason) :
    ownLeaveEnds p (setLine p u s) =
      exitPair p reason (setLine p { u with svc := { u.svc with windDown := some { w with leaveEnded := true } } } s) := by
  simp only [ownLeaveEnds, line_setLine_same, hw, modLine_setLine, hd]

theorem ownLeaveEnds_plain (hw : u.svc.windDown = some w) (hd : w.deferred = none) :
    ownLeaveEnds p (setLine p u s) =
      tryWindDownEnd p (setLine p { u with svc := { u.svc with windDown := some { w with leaveEnded := true } } } s) := by
  simp only [ownLeaveEnds, line_setLine_same, hw, modLine_setLine, hd]

/-! ### A received LEAVE (R88, R103, R122, R124) -/

/-- R74: where a frame of its kind's size is acted on, it is acted on after the count check. -/
theorem receive_checked {k : FrameKind} {f : Frame} {act : State → State} (hz : frameSizeOk k f = true)
    (h : (line s p).state = .detect ∨ (line s p).state = .train ∨ inService (line s p) = true ∨
      ((line s p).state = .qualify ∧
        ((line s p).qualify.ownPass = true ∨ (line s p).qualify.bad + framesLost (line s p) f < 5))) :
    receive k p f act s = act (checkCount p f s) := by
  have hplain (hh : hears (line s p) = true) (hi : inService (line s p) = false) (hc : counting (line s p) = false) :
      receive k p f act s = act (checkCount p f s) := by
    rw [receive_plain k p f act s hh hi hc hz, checkCount_plain p f s hi hc]
  rcases h with h | h | h | ⟨h, ho | hb⟩
  · exact hplain (by simp [hears, h]) (by simp [inService, h]) (by simp [counting, h])
  · exact hplain (by simp [hears, h]) (by simp [inService, h]) (by simp [counting, h])
  · exact receive_inService k p f act s h hz
  · exact hplain (by simp [hears, h]) (by simp [inService, h]) (by simp [counting, ho])
  · cases ho : (line s p).qualify.ownPass with
    | true => exact hplain (by simp [hears, h]) (by simp [inService, h]) (by simp [counting, ho])
    | false => exact receive_counting k p f act s (by simp [counting, h, ho]) hb hz

/-- R74: the count check leaves a line unit that is still acted on in its state. -/
theorem line_checkCount_state {f : Frame}
    (h : (line s p).state = .detect ∨ (line s p).state = .train ∨ inService (line s p) = true ∨
      ((line s p).state = .qualify ∧
        ((line s p).qualify.ownPass = true ∨ (line s p).qualify.bad + framesLost (line s p) f < 5))) :
    (line (checkCount p f s) p).state = (line s p).state := by
  have hplain (hi : inService (line s p) = false) (hc : counting (line s p) = false) :
      (line (checkCount p f s) p).state = (line s p).state := by
    rw [checkCount_plain p f s hi hc, line_setLine_same]
  rcases h with h | h | h | ⟨h, ho⟩
  · exact hplain (by simp [inService, h]) (by simp [counting, h])
  · exact hplain (by simp [inService, h]) (by simp [counting, h])
  · rw [line_checkCount_inService h]
    rfl
  · cases hp : (line s p).qualify.ownPass with
    | true => exact hplain (by simp [inService, h]) (by simp [counting, hp])
    | false =>
      have hb : (line s p).qualify.bad + framesLost (line s p) f < 5 := by simpa [hp] using ho
      rw [checkCount_counting p f s (by simp [counting, h, hp]), addBad_below p _ _ (by rw [line_setLine_same]; exact hb)]
      simp only [line_setLine_same]

theorem actLeave_windDown (hs : (line s p).state = .windDown) (hw : (line s p).svc.windDown = some w) :
    actLeave p s = tryWindDownEnd p
      (setLine p { line s p with svc := { (line s p).svc with windDown := some { w with farLeave := true } } } (countLeave p s)) := by
  simp only [actLeave, hs, modLine, line_countLeave, farLeaves, hw, Option.map_some]

end

/-- Settles O56: each command that makes an exit, or a failure, by the record of the wind-down. -/
theorem exitEmptiesTheQueueAndReturnsToQuiet : Obligations.ExitEmptiesTheQueueAndReturnsToQuiet := by
  intro p s f n r i w k left recorded leave u limited ended far t
  have hwound (hz : frameSizeOk .leave f = true) (hs : u.state = .windDown) (hw : u.svc.windDown = some w) :
      let v : LineUnit := { line t p with svc := { (line t p).svc with windDown := some far } }
      exec (.leave p f) s = .next (tryWindDownEnd p (setLine p v t)) ∧ (line (setLine p v t) p).state = .windDown ∧
        (line (setLine p v t) p).svc.windDown = some far ∧ (line (setLine p v t) p).queue = u.queue := by
    have hin : inService u = true := inService_of_windDown hs
    have hline : line (checkCount p f s) p = goodMarks (framesLost u f) (expects f u) := line_checkCount_inService hin
    refine ⟨?_, ?_, ?_, ?_⟩
    · refine congrArg Host.Outcome.next ((receive_checked hz (.inr (.inr (.inl hin)))).trans ?_)
      exact actLeave_windDown (by rw [hline]; exact hs) (by rw [hline]; exact hw)
    all_goals rw [line_setLine_same]
    · exact (congrArg LineUnit.state hline).trans hs
    · change (line (checkCount p f s) p).queue = u.queue
      rw [hline]
      rfl
  refine ⟨fun hd => ?_, fun hw hd => ?_, fun hs hd => ?_, fun hs hw ht => ?_, fun hs htx hw hst => ?_, fun hs htx => ?_,
    fun hz => ⟨fun hs => ?_, fun hs hw hq he => ?_, fun hs hw h => ?_, fun hs => ?_, fun hs h => ?_, fun hs => ?_⟩⟩
  · exact congrArg Host.Outcome.next (whenLine_idle (by simp [isDue, show (line s p).svc.losHold = _ from hd]))
  · exact congrArg Host.Outcome.next (whenLine_idle (by simp [windDownDue, isDue, show (line s p).svc.windDown = _ from hw, hd]))
  · refine congrArg Host.Outcome.next ((whenLine_due ?_).trans (exitPair_losLoss p s))
    simp [isDue, show (line s p).state = _ from hs, show (line s p).svc.losHold = _ from hd]
  · have hexec := exec_windDownLimit_due hs hw ht
    refine ⟨fun h => ?_, fun h he => ?_, fun h he => ?_⟩ <;> refine hexec.trans (congrArg Host.Outcome.next ?_)
    · refine (if_neg (by rw [h]; nofun)).trans ?_
      rw [h]
      rfl
    · refine (if_neg (by rw [h, he]; nofun)).trans ?_
      rw [h]
      rfl
    · exact if_pos (by rw [h, he]; rfl)
  · intro v
    have hvs : (line (setLine p v s) p).state = .windDown := by rw [line_setLine_same]; exact hs
    have hvw : (line (setLine p v s) p).svc.windDown = some ended := by rw [line_setLine_same]
    have hdone := windDownDone_iff hvs hvw
    have hvq : (line (setLine p v s) p).queue = u.queue := by rw [line_setLine_same]
    rw [hvq] at hdone
    refine ⟨fun hdef hf hq => ?_, fun hdef => ?_, fun hdef h => ?_⟩
    all_goals refine (exec_ownLeaveSent_windDown hs htx).trans (congrArg Host.Outcome.next ?_)
    · rw [ownLeaveEnds_plain (u := { u with tx := none }) hw hdef, tryWindDownEnd_done (hdone.2 ⟨hf, hq, .inr rfl⟩),
        exitPair_windDownEnd hvw, show ended.leaveStarted = true from hst]
      rfl
    · rw [ownLeaveEnds_deferred (u := { u with tx := none }) hw hdef, exitPair_windDownLimit hvw,
        show ended.leaveStarted = true from hst]
      rfl
    · refine (ownLeaveEnds_plain (u := { u with tx := none }) hw hdef).trans (tryWindDownEnd_stays fun hd => ?_)
      obtain ⟨hf, hq, -⟩ := hdone.1 hd
      rcases h with h | h
      · exact absurd (hf.symm.trans h) nofun
      · exact h hq
  · have hcut : (line (setLine p { u with tx := none } s) p).state = .quiet := by rw [line_setLine_same]; exact hs
    refine congrArg Host.Outcome.next ((endOf_content htx rfl).trans (if_neg ?_))
    rw [hcut]
    nofun
  · have hin : inService u = true := inService_of_service hs
    have hts := (line_checkCount_state (f := f) (.inr (.inr (.inl hin)))).trans hs
    refine congrArg Host.Outcome.next ((receive_checked hz (.inr (.inr (.inl hin)))).trans ?_)
    simp only [actLeave, hts]
    exact exitPair_eq (reason := .farLeave) nofun nofun p t
  · obtain ⟨hexec, hvs, hvw, hvq⟩ := hwound hz hs hw
    refine hexec.trans (congrArg Host.Outcome.next ?_)
    rw [tryWindDownEnd_done ((windDownDone_iff hvs hvw).2 ⟨rfl, hvq.trans hq, he⟩), exitPair_windDownEnd hvw]
    rfl
  · obtain ⟨hexec, hvs, hvw, hvq⟩ := hwound hz hs hw
    refine hexec.trans (congrArg Host.Outcome.next (tryWindDownEnd_stays fun hd => ?_))
    obtain ⟨-, hq, he⟩ := (windDownDone_iff hvs hvw).1 hd
    rw [hvq] at hq
    rcases h with h | ⟨h, h'⟩
    · exact h hq
    · rcases he with he | he
      · exact absurd (h.symm.trans he) nofun
      · exact absurd (he.symm.trans h') nofun
  · refine congrArg Host.Outcome.next ((receive_checked hz (.inr (.inl hs))).trans ?_)
    simp only [actLeave, (line_checkCount_state (f := f) (.inr (.inl hs))).trans hs]
  · refine congrArg Host.Outcome.next ((receive_checked hz (.inr (.inr (.inr ⟨hs, h⟩)))).trans ?_)
    simp only [actLeave, (line_checkCount_state (f := f) (.inr (.inr (.inr ⟨hs, h⟩)))).trans hs]
  · refine congrArg Host.Outcome.next ((receive_detect hs hz).trans ?_)
    have ht : (line (setLine p (expects f (line s p)) s) p).state = .detect := by rw [line_setLine_same]; exact hs
    simp only [actLeave, ht]
    rfl

end Sys2Proof.Machine

namespace Sys2Proof.Machine

/-! ## The transmitter

### The choice in service (R69, R71, R72) -/

section
variable {p : Pair} {s : State} {u v : LineUnit}

/-- R121: a line unit whose own LEAVE is placed where it is due. -/
def leavePlaced (u : LineUnit) : LineUnit := { u with ctl := { u.ctl with leave := u.ctl.leave || leaveDue u } }

theorem leavePlaced_of_service (h : u.state = .service) : leavePlaced u = u := by
  have hdue : leaveDue u = false := by simp [leaveDue, h]
  rw [leavePlaced, hdue, Bool.or_false]

theorem frameEnds_content {c : TxContent} {i : BitVec 24} {q : Nat} (h : (line s p).tx = some ⟨c, i, q⟩) :
    frameEnds p s = contentEnds p c (setLine p { line s p with tx := none } s) := by
  simp only [frameEnds, h, modLine]

theorem exec_frameBoundary_none (h : (line s p).tx = none) : exec (.frameBoundary p) s = .next (chooseNext p s) := by
  refine congrArg Host.Outcome.next (congrArg (chooseNext p) ?_)
  simp only [frameEnds, h]

theorem exec_frameBoundary_content {c : TxContent} {i : BitVec 24} {q : Nat} (h : (line s p).tx = some ⟨c, i, q⟩) :
    exec (.frameBoundary p) s = .next (chooseNext p (contentEnds p c (setLine p { line s p with tx := none } s))) :=
  congrArg Host.Outcome.next (congrArg (chooseNext p) (frameEnds_content h))

/-- R68, R72: the choice of a pair with no frame on it, an IDLE being counted. -/
theorem chooseNext_eq {c : TxContent} {i : BitVec 24} {r : Nat} (h : (line s p).tx = none) (hc : chooseLine s (line s p) = v)
    (hv : v.tx = some ⟨c, i, r⟩) :
    chooseNext p s =
      if c = .idle then countPair p (fun c => { c with idleFrames := c.idleFrames + 1 }) (setLine p v s) else setLine p v s := by
  have hidle : txIsIdle v = decide (c = .idle) := by
    simp only [txIsIdle, hv]
    exact Bool.beq_eq_decide_eq _ _
  simp only [chooseNext, h, Option.isSome_none, Bool.false_eq_true, if_false, hc, hidle, decide_eq_true_eq]

theorem chooseService_leave (hl : u.ctl.leave = true) : chooseService u = txStart .leave u.sendRate (markLeaveStarted u) := if_pos hl

theorem chooseService_windDown {why : WindDownReason} (hl : u.ctl.leave = false) (hw : u.ctl.windDown = some why) :
    chooseService u = txStart (.windDown why) u.sendRate { u with ctl := { u.ctl with windDown := none } } := by
  simp only [chooseService, hl, Bool.false_eq_true, if_false, hw]

theorem chooseService_rateSwitch {q : Nat} (hl : u.ctl.leave = false) (hw : u.ctl.windDown = none) (hr : u.ctl.rateSwitch = some q) :
    chooseService u = txStart (.rateSwitch q) u.sendRate { u with ctl := { u.ctl with rateSwitch := none } } := by
  simp only [chooseService, hl, Bool.false_eq_true, if_false, hw, hr]

theorem chooseService_qualified (hl : u.ctl.leave = false) (hw : u.ctl.windDown = none) (hr : u.ctl.rateSwitch = none)
    (hq : u.ctl.qualified = true) :
    chooseService u = txStart .qualified u.sendRate { u with ctl := { u.ctl with qualified := false } } := by
  simp only [chooseService, hl, Bool.false_eq_true, if_false, hw, hr, hq, if_true]

theorem chooseService_rateAsk {q : Nat} (hl : u.ctl.leave = false) (hw : u.ctl.windDown = none) (hr : u.ctl.rateSwitch = none)
    (hq : u.ctl.qualified = false) (ha : u.ctl.rateAsk = some q) :
    chooseService u = txStart (.rateAsk q) u.sendRate { u with ctl := { u.ctl with rateAsk := none } } := by
  simp only [chooseService, hl, Bool.false_eq_true, if_false, hw, hr, hq, ha]

theorem chooseService_frag {x : Fragment} {rest : List Fragment} (hc : u.ctl = .empty) (hq : u.queue = x :: rest) :
    chooseService u = txStart (.frag x) u.sendRate u := by
  simp only [chooseService, hc, CtlSlots.empty, Bool.false_eq_true, if_false, hq]

theorem chooseService_idle (hc : u.ctl = .empty) (hq : u.queue = []) : chooseService u = txStart .idle u.sendRate u := by
  simp only [chooseService, hc, CtlSlots.empty, Bool.false_eq_true, if_false, hq]

theorem chooseLine_inService {c : TxContent} {r : Nat} (hin : inService u = true) (hc : chooseService u = txStart c r v)
    (hv : v.state = u.state) :
    chooseLine s u = { leavePlaced v with tx := some ⟨c, v.txCount, r⟩, txCount := v.txCount + 1 } := by
  have hs : u.state = .service ∨ u.state = .windDown := by simpa [inService] using hin
  rcases hs with hs | hs
  · have hl : chooseLine s u = chooseService u := by simp only [chooseLine, hs]
    rw [hl, hc, leavePlaced_of_service (hv.trans hs)]
    rfl
  · have hl : chooseLine s u = placeOwnLeave (chooseService u) := by simp only [chooseLine, hs]
    rw [hl, hc, placeOwnLeave_eq]
    rfl

/-- R69, R71: a pair in service sends what its own choice starts. -/
theorem chooseNext_inService {c : TxContent} (hin : inService (line s p) = true) (htx : (line s p).tx = none)
    (hc : chooseService (line s p) = txStart c (line s p).sendRate v) (hv : v.state = (line s p).state)
    (hn : v.txCount = (line s p).txCount) :
    chooseNext p s =
      if c = .idle then
        countPair p (fun c => { c with idleFrames := c.idleFrames + 1 })
          (setLine p { leavePlaced v with
            tx := some ⟨c, (line s p).txCount, (line s p).sendRate⟩, txCount := (line s p).txCount + 1 } s)
      else
        setLine p { leavePlaced v with
          tx := some ⟨c, (line s p).txCount, (line s p).sendRate⟩, txCount := (line s p).txCount + 1 } s := by
  have h := chooseNext_eq (i := v.txCount) (r := (line s p).sendRate) htx (chooseLine_inService hin hc hv) rfl
  rw [hn] at h
  exact h

/-! ### The end of a FRAG (R75, R121, R122) -/

/-- R75: the head fragment has left the queue and is counted as sent. -/
def fragGone (p : Pair) (x : Fragment) (rest : List Fragment) (u : LineUnit) (s : State) : State :=
  countPair p (fun c => { c with fragsSent := c.fragsSent + 1, bytesSent := c.bytesSent + BitVec.ofNat 40 x.length })
    (setLine p (leavePlaced { u with tx := none, queue := rest }) s)

theorem fragEnds_eq {x : Fragment} {rest : List Fragment} (hin : inService (line s p) = true) (hq : (line s p).queue = x :: rest)
    {y : Fragment} :
    contentEnds p (.frag y) (setLine p { line s p with tx := none } s) = tryWindDownEnd p (fragGone p x rest (line s p) s) := by
  have hcut : inService (line (setLine p { line s p with tx := none } s) p) = true := by rw [line_setLine_same]; exact hin
  refine (if_pos hcut).trans ?_
  simp only [fragEnds, line_setLine_same, hq, modLine_setLine, placeOwnLeave_eq]
  rfl

theorem line_fragGone (p : Pair) (x : Fragment) (rest : List Fragment) (u : LineUnit) (s : State) :
    line (fragGone p x rest u s) p = leavePlaced { u with tx := none, queue := rest } := by
  rw [fragGone, line_countPair, line_setLine_same]

end

theorem recordEvent_live (k : EventKind) (a b : Nat) (s : State) : (recordEvent k a b s).status.live = s.status.live := by
  unfold recordEvent
  split <;> rfl

/-- R76, R109: the counts a LOS loss leaves. -/
theorem pairs_losLoss (p : Pair) (s : State) :
    quadGet (exitPair p .losLoss s).status.live.pairs p =
      { quadGet s.status.live.pairs p with
        discarded := (quadGet s.status.live.pairs p).discarded + BitVec.ofNat 32 (line s p).queue.length
        losLosses := satInc (quadGet s.status.live.pairs p).losLosses } := by
  rw [exitPair_losLoss, leftRecorded, evidenceSkip_status, recordEvent_live]
  simp only [countPair, leftPair, setLine_status, quadGet_quadSet_same]

/-- Settles O57: the choice by what is pending, and the end of a FRAG by what the wind-down and the LOS hold make of it. -/
theorem serviceBoundaryChoosesInOrder : Obligations.ServiceBoundaryChoosesInOrder := by
  intro p s i q r x y rest why hin u due placed sends gone
  have hgone : fragGone p x rest u s = gone := rfl
  have hline : line gone p = leavePlaced { u with tx := none, queue := rest } := line_fragGone p x rest u s
  have hcomplete (htx : u.tx = some ⟨.frag y, i, r⟩) (hq : u.queue = x :: rest) :
      exec (.fragComplete p) s = .next (tryWindDownEnd p gone) :=
    congrArg Host.Outcome.next ((endOf_content htx rfl).trans (fragEnds_eq hin hq))
  refine ⟨fun htx => ⟨exec_frameBoundary_none htx, fun hl => ?_, fun hl hw => ?_, fun hl hw hr => ?_, fun hl hw hr hq => ?_,
    fun hl hw hr hq ha => ?_, fun hc hq => ?_, fun hc hq => ?_⟩, fun htx => ?_, fun htx hq => ⟨fun h => ?_, fun w hs hw hr hf hl => ?_⟩,
    fun htx hq hs hd => ?_⟩
  · exact chooseNext_inService hin htx (chooseService_leave hl) rfl rfl
  · exact chooseNext_inService hin htx (chooseService_windDown hl hw) rfl rfl
  · exact chooseNext_inService hin htx (chooseService_rateSwitch hl hw hr) rfl rfl
  · exact chooseNext_inService hin htx (chooseService_qualified hl hw hr hq) rfl rfl
  · exact chooseNext_inService hin htx (chooseService_rateAsk hl hw hr hq ha) rfl rfl
  · exact chooseNext_inService hin htx (chooseService_frag hc hq) rfl rfl
  · exact chooseNext_inService hin htx (chooseService_idle hc hq) rfl rfl
  · exact exec_frameBoundary_content htx
  · have hnot : ¬windDownDone (line gone p) = true := by
      rw [hline]
      intro hd
      simp only [windDownDone, leavePlaced] at hd
      cases hw : u.svc.windDown with
      | none => simp [hw] at hd
      | some w =>
        simp only [hw, Bool.and_eq_true, beq_iff_eq, List.isEmpty_iff] at hd
        obtain ⟨⟨⟨hs, hf⟩, hr⟩, -⟩ := hd
        rcases h with h | h | h
        · exact absurd (h.symm.trans hs) nofun
        · exact h hr
        · exact absurd (hf.symm.trans (h w hw)) nofun
    refine ⟨(hcomplete htx hq).trans (congrArg _ (tryWindDownEnd_stays hnot)), ?_⟩
    rw [exec_frameBoundary_content htx, fragEnds_eq hin hq, hgone, tryWindDownEnd_stays hnot]
  · refine (hcomplete htx hq).trans (congrArg _ (tryWindDownEnd_done ?_))
    rw [hline]
    exact (windDownDone_iff (u := leavePlaced { u with tx := none, queue := rest }) hs hw).2 ⟨hf, hr, hl⟩
  · intro c
    have hstays : tryWindDownEnd p gone = gone := by
      refine tryWindDownEnd_stays fun hd => ?_
      rw [hline] at hd
      cases hw : u.svc.windDown <;> simp [windDownDone, leavePlaced, hw, show (line s p).state = _ from hs, u] at hd
    refine ⟨gone, exitPair p .losLoss gone, (hcomplete htx hq).trans (congrArg _ hstays), ?_, ?_⟩
    · refine congrArg Host.Outcome.next (whenLine_due ?_)
      rw [hline]
      simp [leavePlaced, isDue, show (line s p).state = _ from hs, show (line s p).svc.losHold = _ from hd, u]
    have hleft : line (exitPair p .losLoss gone) p = leftLine gone true (leavePlaced { u with tx := none, queue := rest }) := by
      rw [exitPair_losLoss, leftRecorded, line_evidenceSkip, line_recordEvent, line_countPair, leftPair, line_countPair,
        line_setLine_same, hline]
    refine ⟨by rw [hleft]; rfl, by rw [hleft]; rfl, by rw [hleft]; rfl, ?_⟩
    rw [pairs_losLoss, hline]
    simp only [gone, countPair, setLine_status, quadGet_quadSet_same]
    rfl

end Sys2Proof.Machine

namespace Sys2Proof.Machine

/-! ### The choice before service (R81, R89, R94, R98, R100) -/

section
variable {p : Pair} {s : State} {u v : LineUnit}

/-- R68: the boundary of a line unit with no frame on its pair that starts one before service. -/
theorem exec_frameBoundary_starts {c : TxContent} {r : Nat} (h : (line s p).tx = none) (hc : chooseLine s (line s p) = txStart c r v)
    (hi : c ≠ .idle) (hn : v.txCount = (line s p).txCount) :
    exec (.frameBoundary p) s =
      .next (setLine p { v with tx := some ⟨c, (line s p).txCount, r⟩, txCount := (line s p).txCount + 1 } s) := by
  rw [exec_frameBoundary_none h, chooseNext_eq h hc rfl, if_neg hi, ← hn]
  rfl

theorem chooseLine_train (h : u.state = .train) : chooseLine s u = chooseTrain s u := by simp only [chooseLine, h]

theorem chooseLine_qualify (h : u.state = .qualify) : chooseLine s u = chooseQualify u := by simp only [chooseLine, h]

theorem chooseTrain_echo {t2 : Stamp} (he : u.train.echoReply = some t2) :
    chooseTrain s u =
      txStart (.echo ((s.timeBase - t2).setWidth 16)) u.trainedSend { u with train := { u.train with echoReply := none } } := by
  simp only [chooseTrain, he]

theorem chooseTrain_verdict {b g : Nat} {clean : Bool} (he : u.train.echoReply = none) (hv : u.train.verdict = some (.burst b g clean)) :
    chooseTrain s u = txStart (.verdict b g clean) 1 { u with train := { u.train with verdict := none } } := by
  simp only [chooseTrain, he, hv]

theorem chooseTrain_closingVerdict {rate : Nat} (he : u.train.echoReply = none) (hv : u.train.verdict = some (.closing rate)) :
    chooseTrain s u = txStart (.closingVerdict rate) 1 { u with train := { u.train with verdict := none } } := by
  simp only [chooseTrain, he, hv]

theorem chooseTrain_closingProbe (he : u.train.echoReply = none) (hv : u.train.verdict = none) (hc : u.train.closingPending = true) :
    chooseTrain s u = txStart (.closingProbe u.trainedSend) 1 { u with train := { u.train with closingPending := false } } := by
  simp only [chooseTrain, he, hv, hc, if_true]

theorem chooseTrain_echoAsk (he : u.train.echoReply = none) (hv : u.train.verdict = none) (hc : u.train.closingPending = false)
    (ha : u.train.echoAskPending = true) :
    chooseTrain s u = txStart .echoAsk u.trainedSend { u with train := { u.train with echoAskPending := false } } := by
  simp only [chooseTrain, he, hv, hc, ha, Bool.false_eq_true, if_false, if_true]

theorem chooseTrain_probe {sr : Search} {i : Nat} (he : u.train.echoReply = none) (hv : u.train.verdict = none)
    (hc : u.train.closingPending = false) (ha : u.train.echoAskPending = false) (hs : u.train.search = some sr)
    (hp : u.train.probeNext = some i) :
    chooseTrain s u =
      txStart (.probe sr.burst sr.candidate i) sr.candidate
        { u with
          train :=
            { u.train with
              probeNext := if i < 63 then some (i + 1) else none
              deadline := if i = 0 then .running (burstDeadline sr.candidate) else u.train.deadline } } := by
  simp only [chooseTrain, he, hv, hc, ha, Bool.false_eq_true, if_false, hs, hp]

theorem chooseTrain_fill (he : u.train.echoReply = none) (hv : u.train.verdict = none) (hc : u.train.closingPending = false)
    (ha : u.train.echoAskPending = false) (h : u.train.search = none ∨ u.train.probeNext = none) :
    chooseTrain s u = txStart (trainFill s u) 1 u := by
  simp only [chooseTrain, he, hv, hc, ha, Bool.false_eq_true, if_false]
  rcases h with h | h
  · simp only [h]
  · cases hs : u.train.search <;> simp only [h]

theorem chooseQualify_leave (hl : u.ctl.leave = true) :
    chooseQualify u = txStart .leave u.trainedSend { u with ctl := { u.ctl with leave := false } } := if_pos hl

theorem chooseQualify_qualified (hl : u.ctl.leave = false) (hq : u.ctl.qualified = true) :
    chooseQualify u = txStart .qualified u.trainedSend { u with ctl := { u.ctl with qualified := false } } := by
  simp only [chooseQualify, hl, hq, Bool.false_eq_true, if_false, if_true]

theorem chooseQualify_test (hl : u.ctl.leave = false) (hq : u.ctl.qualified = false) :
    chooseQualify u =
      txStart (.test u.qualify.testIndex) u.trainedSend
        { u with qualify := { u.qualify with testIndex := u.qualify.testIndex + 1 } } := by
  simp only [chooseQualify, hl, hq, Bool.false_eq_true, if_false]

end

/-! ### A boundary that ends a frame (R68, R75) -/

/-- R75: the end of a frame of these kinds has no effect of its own. -/
theorem contentEnds_idle (p : Pair) (t : State) {c : TxContent}
    (h : (∃ role, c = .wake role) ∨ (∃ role lo hi x held, c = .params role lo hi x held) ∨ (∃ b r i, c = .probe b r i) ∨
      (∃ b g clean, c = .verdict b g clean) ∨ (∃ r, c = .closingVerdict r) ∨ (∃ i, c = .test i) ∨ c = .qualified ∨ c = .idle ∨
      (∃ why, c = .windDown why)) :
    contentEnds p c t = t := by
  rcases h with ⟨_, rfl⟩ | ⟨_, _, _, _, _, rfl⟩ | ⟨_, _, _, rfl⟩ | ⟨_, _, _, rfl⟩ | ⟨_, rfl⟩ | ⟨_, rfl⟩ | rfl | rfl | ⟨_, rfl⟩ <;> rfl

/-- R68: a boundary makes the frame's end and the choice, which two commands may make as well. -/
theorem exec_frameBoundary_two (is : TxContent → Bool) (p : Pair) (s t : State) (x : TxFrame) (hx : (line s p).tx = some x)
    (h : endOf is p s = t) (ht : (line t p).tx = none) : exec (.frameBoundary p) s = exec (.frameBoundary p) t := by
  obtain ⟨hsame, -⟩ | ⟨-, -, -, hends⟩ := endOf_cases is p s
  · rw [← h, hsame, hx] at ht
    cases ht
  · rw [exec_frameBoundary_none ht, ← h, hends]
    rfl

theorem boundaryEndsAndChooses (p : Pair) (s : State) (x : TxFrame) (hx : (line s p).tx = some x) :
    let cleared := setLine p { line s p with tx := none } s
    ((∃ role, x.content = .wake role) ∨ (∃ role lo hi c held, x.content = .params role lo hi c held) ∨
          (∃ b r i, x.content = .probe b r i) ∨ (∃ b g clean, x.content = .verdict b g clean) ∨
          (∃ r, x.content = .closingVerdict r) ∨ (∃ i, x.content = .test i) ∨ x.content = .qualified ∨
          x.content = .idle ∨ (∃ why, x.content = .windDown why) →
        exec (.frameBoundary p) s = exec (.frameBoundary p) cleared) ∧
      ∀ (c : Instr) (t : State),
        c ∈ [.fragComplete p, .rateSwitchSent p, .rateAskSent p, .echoAskSent p, .echoSent p, .closingProbeSent p,
          .ownLeaveSent p] →
        exec c s = .next t → (line t p).tx = none → exec (.frameBoundary p) s = exec (.frameBoundary p) t := by
  refine ⟨fun h => ?_, fun c t hc he ht => ?_⟩
  · obtain ⟨c, i, q⟩ := x
    rw [exec_frameBoundary_content hx, contentEnds_idle p _ h, exec_frameBoundary_none (by rw [line_setLine_same])]
  · simp only [List.mem_cons, List.not_mem_nil, or_false] at hc
    rcases hc with rfl | rfl | rfl | rfl | rfl | rfl | rfl <;>
      exact exec_frameBoundary_two _ p s t x hx (Host.Outcome.next.inj he) ht

/-- Settles O58: a boundary with a frame on the pair, and the choice by state and by what is pending. -/
theorem bringUpBoundaryChoosesInOrder : Obligations.BringUpBoundaryChoosesInOrder := by
  refine ⟨boundaryEndsAndChooses, ?_⟩
  intro p s t2 b g i rate clean sr htx u sends train t c
  refine ⟨fun hs => ?_, fun hs => ?_, fun hs => ⟨fun he => ?_, fun he hv => ?_, fun he hv => ?_, fun he hv => ⟨fun hc => ?_, fun hc ha => ?_,
    fun hc ha => ⟨fun hsr hi => ?_, fun h => ⟨fun hf => ?_, fun hf => ?_⟩⟩⟩⟩, fun hs => ⟨fun hl => ?_, fun hl hq => ?_, fun hl hq => ?_⟩⟩
  · have hl : chooseLine s (line s p) = line s p := by rcases hs with hs | hs <;> simp only [chooseLine, show (line s p).state = _ from hs]
    have hi : txIsIdle (line s p) = false := by simp only [txIsIdle, htx]
    rw [exec_frameBoundary_none htx]
    simp only [chooseNext, htx, Option.isSome_none, Bool.false_eq_true, if_false, hl, hi, setLine_line]
  · have hl : chooseLine s (line s p) = txStart (.wake (config s).role) 1 (line s p) := by
      simp only [chooseLine, show (line s p).state = _ from hs]
    exact exec_frameBoundary_starts htx hl nofun rfl
  · exact exec_frameBoundary_starts htx ((chooseLine_train hs).trans (chooseTrain_echo he)) nofun rfl
  · exact exec_frameBoundary_starts htx ((chooseLine_train hs).trans (chooseTrain_verdict he hv)) nofun rfl
  · exact exec_frameBoundary_starts htx ((chooseLine_train hs).trans (chooseTrain_closingVerdict he hv)) nofun rfl
  · exact exec_frameBoundary_starts htx ((chooseLine_train hs).trans (chooseTrain_closingProbe he hv hc)) nofun rfl
  · exact exec_frameBoundary_starts htx ((chooseLine_train hs).trans (chooseTrain_echoAsk he hv hc ha)) nofun rfl
  · exact exec_frameBoundary_starts htx ((chooseLine_train hs).trans (chooseTrain_probe he hv hc ha hsr hi)) nofun rfl
  · have hfill : trainFill s u = .params c.role c.minRate c.maxRate c.ceiling u.farParams.isSome := if_pos hf
    exact exec_frameBoundary_starts htx ((chooseLine_train hs).trans ((chooseTrain_fill he hv hc ha h).trans (by rw [hfill]))) nofun rfl
  · have hfill : trainFill s u = .wake c.role := if_neg (by rw [hf]; nofun)
    exact exec_frameBoundary_starts htx ((chooseLine_train hs).trans ((chooseTrain_fill he hv hc ha h).trans (by rw [hfill]))) nofun rfl
  · exact exec_frameBoundary_starts htx ((chooseLine_qualify hs).trans (chooseQualify_leave hl)) nofun rfl
  · exact exec_frameBoundary_starts htx ((chooseLine_qualify hs).trans (chooseQualify_qualified hl hq)) nofun rfl
  · exact exec_frameBoundary_starts htx ((chooseLine_qualify hs).trans (chooseQualify_test hl hq)) nofun rfl

end Sys2Proof.Machine

namespace Sys2Proof.Machine

/-! ## The receiving side

### The frames by the state that acts on them (R74, R81, R182) -/

/-- R81: the frames of DETECT and TRAIN, of TRAIN, of QUALIFY and of service, each with its kind. -/
def meetingFrames (p : Pair) (f : Frame) : List (FrameKind × Instr) := [(.wake, .wake p f), (.params, .params p f)]

def trainingFrames (p : Pair) (f : Frame) : List (FrameKind × Instr) :=
  [(.probe, .probe p f), (.probe, .closingProbe p f), (.verdict, .verdict p f), (.verdict, .closingVerdict p f),
    (.echoAsk, .echoAsk p f), (.echo, .echo p f)]

def qualifyingFrames (p : Pair) (f : Frame) (m : BitVec 6) : List (FrameKind × Instr) :=
  [(.test, .test p f m), (.qualified, .qualified p f m)]

def servingFrames (p : Pair) (f : Frame) : List (FrameKind × Instr) :=
  [(.rateAsk, .rateAsk p f), (.rateSwitch, .rateSwitch p f), (.windDown, .windDown p f)]

def allFrames (p : Pair) (f : Frame) (m : BitVec 6) : List (FrameKind × Instr) :=
  (.frag, .frag p f) :: (.idle, .idle p f) :: (.leave, .leave p f) ::
    (meetingFrames p f ++ trainingFrames p f ++ qualifyingFrames p f m ++ servingFrames p f)

/-- R74: the line unit acts on a frame after the count check. -/
def Acts (p : Pair) (f : Frame) (s : State) : Prop :=
  (line s p).state = .detect ∨ (line s p).state = .train ∨ inService (line s p) = true ∨
    ((line s p).state = .qualify ∧
      ((line s p).qualify.ownPass = true ∨ (line s p).qualify.bad + framesLost (line s p) f < 5))

section
variable {p : Pair} {s : State} {f : Frame} {k : FrameKind} {act : State → State} {m : BitVec 6}

theorem Acts.hears (h : Acts p f s) : hears (line s p) = true := by
  rcases h with h | h | h | ⟨h, -⟩
  · simp [Machine.hears, h]
  · simp [Machine.hears, h]
  · cases hs : (line s p).state <;> simp_all [Machine.hears, inService]
  · simp [Machine.hears, h]

theorem Acts.hears_after (h : Acts p f s) : Machine.hears (line (checkCount p f s) p) = true := by
  have ht := h.hears
  simp only [Machine.hears, line_checkCount_state h] at ht ⊢
  exact ht

theorem Acts.receiveCounted (h : Acts p f s) : receiveCounted p f act s = act (checkCount p f s) := by
  simp only [Machine.receiveCounted, h.hears, h.hears_after, if_true]

/-- R182: every frame of the table goes through the receiver. -/
theorem exec_frame_receive (p : Pair) (f : Frame) (m : BitVec 6) (s : State) :
    ∀ x ∈ allFrames p f m, ∃ act, exec x.2 s = .next (receive x.1 p f act s) := by
  intro x hx
  simp only [allFrames, meetingFrames, trainingFrames, qualifyingFrames, servingFrames, List.cons_append, List.nil_append,
    List.mem_cons, List.not_mem_nil, or_false] at hx
  rcases hx with rfl | rfl | rfl | rfl | rfl | rfl | rfl | rfl | rfl | rfl | rfl | rfl | rfl | rfl | rfl | rfl <;> exact ⟨_, rfl⟩

/-- R128, R182: a frame of a wrong size is a bad frame after the count check. -/
theorem exec_wrongSize (h : Acts p f s) :
    ∀ x ∈ allFrames p f m, frameSizeOk x.1 f = false → exec x.2 s = .next (badFrame p (checkCount p f s)) := by
  intro x hx hz
  obtain ⟨act, he⟩ := exec_frame_receive p f m s x hx
  rw [he, receive, h.receiveCounted, hz, if_neg nofun]

theorem badFrame_inService (h : inService (line s p) = true) :
    badFrame p s =
      countPair p (fun c => { c with badFrames := satInc c.badFrames })
        (setLine p { line s p with svc := { (line s p).svc with bad := true } } s) := if_pos h

theorem badFrame_elsewhere (h : inService (line s p) = false) : badFrame p s = s := if_neg (by simp [h])

theorem modLine_lightPeriod (h : (line s p).state ≠ .detect) : modLine p lightPeriod s = s := by
  rw [modLine, lightPeriod, if_neg h, setLine_line]

/-- R88, R91: WAKE and PARAMS are not acted on outside DETECT and TRAIN. -/
theorem exec_meeting_counted (h : Acts p f s) (hd : (line s p).state ≠ .detect) (ht : (line s p).state ≠ .train) :
    ∀ x ∈ meetingFrames p f, frameSizeOk x.1 f = true → exec x.2 s = .next (checkCount p f s) := by
  have hs := line_checkCount_state h
  have hlight := modLine_lightPeriod (s := checkCount p f s) (by rw [hs]; exact hd)
  intro x hx hz
  simp only [meetingFrames, List.mem_cons, List.not_mem_nil, or_false] at hx
  rcases hx with rfl | rfl <;> refine congrArg Host.Outcome.next ((receive_checked hz h).trans ?_)
  · exact hlight
  · exact (if_neg (by rw [hs]; exact ht)).trans hlight

theorem exec_wake_counted (h : Acts p f s) (hd : (line s p).state ≠ .detect) (hz : frameSizeOk .wake f = true) :
    exec (.wake p f) s = .next (checkCount p f s) :=
  congrArg Host.Outcome.next ((receive_checked hz h).trans
    (modLine_lightPeriod (s := checkCount p f s) (by rw [line_checkCount_state h]; exact hd)))

/-- R91 to R98: the frames of TRAIN are not acted on outside it. -/
theorem exec_training_counted (h : Acts p f s) (ht : (line s p).state ≠ .train) :
    ∀ x ∈ trainingFrames p f, frameSizeOk x.1 f = true → exec x.2 s = .next (checkCount p f s) := by
  have hs : ¬(line (checkCount p f s) p).state = .train := by
    rw [line_checkCount_state h]
    exact ht
  intro x hx hz
  simp only [trainingFrames, List.mem_cons, List.not_mem_nil, or_false] at hx
  rcases hx with rfl | rfl | rfl | rfl | rfl | rfl <;>
    exact congrArg Host.Outcome.next ((receive_checked hz h).trans (if_neg hs))

theorem exec_test_counted (h : Acts p f s) (hc : counting (line (checkCount p f s) p) = false) (hz : frameSizeOk .test f = true) :
    exec (.test p f m) s = .next (checkCount p f s) :=
  congrArg Host.Outcome.next ((receive_checked hz h).trans (if_neg (by rw [hc]; nofun)))

/-- R101, R102: the frames of QUALIFY are not acted on outside it. -/
theorem exec_qualifying_counted (h : Acts p f s) (hq : (line s p).state ≠ .qualify) :
    ∀ x ∈ qualifyingFrames p f m, frameSizeOk x.1 f = true → exec x.2 s = .next (checkCount p f s) := by
  have hs : ¬(line (checkCount p f s) p).state = .qualify := by
    rw [line_checkCount_state h]
    exact hq
  intro x hx hz
  simp only [qualifyingFrames, List.mem_cons, List.not_mem_nil, or_false] at hx
  rcases hx with rfl | rfl
  · exact exec_test_counted h (by simp [counting, hs]) hz
  · exact congrArg Host.Outcome.next ((receive_checked hz h).trans (if_neg hs))

/-- R114, R116, R119: the frames of service are not acted on before it. -/
theorem exec_serving_counted (h : Acts p f s) (hin : inService (line s p) = false) :
    ∀ x ∈ servingFrames p f, frameSizeOk x.1 f = true → exec x.2 s = .next (checkCount p f s) := by
  have hs := line_checkCount_state h
  have hserve : inService (line (checkCount p f s) p) = false := by
    simp only [inService, hs] at hin ⊢
    exact hin
  have hne : ¬(line (checkCount p f s) p).state = .service := fun h => by simp [inService, h] at hserve
  intro x hx hz
  simp only [servingFrames, List.mem_cons, List.not_mem_nil, or_false] at hx
  rcases hx with rfl | rfl | rfl <;> refine congrArg Host.Outcome.next ((receive_checked hz h).trans (if_neg ?_))
  · exact hne
  · rw [hserve]
    nofun
  · exact hne

theorem exec_idle_acts (h : Acts p f s) (hz : frameSizeOk .idle f = true ∨ inService (line s p) = false) :
    exec (.idle p f) s = .next (checkCount p f s) := by
  refine congrArg Host.Outcome.next ((h.receiveCounted).trans ?_)
  rcases hz with hz | hin
  · rw [if_pos hz]
    rfl
  · have hserve : inService (line (checkCount p f s) p) = false := by
      simp only [inService, line_checkCount_state h] at hin ⊢
      exact hin
    rw [badFrame_elsewhere hserve, id, ite_self]

/-- R74: in TRAIN and DETECT, and in QUALIFY, what meets every frame that is not acted on. -/
theorem exec_before_service (h : Acts p f s) (hin : inService (line s p) = false) (kind : Byte) :
    exec (.unknownFrameKind p kind f) s = .next (checkCount p f s) ∧ exec (.idle p f) s = .next (checkCount p f s) ∧
      ∀ x ∈ allFrames p f m, frameSizeOk x.1 f = false → exec x.2 s = .next (checkCount p f s) := by
  refine ⟨congrArg Host.Outcome.next h.receiveCounted, exec_idle_acts h (.inr hin), fun x hx hz => ?_⟩
  have hserve : inService (line (checkCount p f s) p) = false := by
    simp only [inService, line_checkCount_state h] at hin ⊢
    exact hin
  rw [exec_wrongSize h x hx hz, badFrame_elsewhere hserve]

theorem checkCount_below (hs : (line s p).state = .qualify) (ho : (line s p).qualify.ownPass = false)
    (hb : (line s p).qualify.bad + framesLost (line s p) f < 5) :
    checkCount p f s = setLine p (counts f ((line s p).qualify.bad + framesLost (line s p) f) (line s p)) s := by
  rw [checkCount_counting p f s (by simp [counting, hs, ho]), addBad_below p _ _ (by rw [line_setLine_same]; exact hb),
    line_setLine_same, setLine_setLine]
  rfl

end

/-- Settles O59: the count check and the frames not acted on, by state; QUALIFY by the own pass and the fifth bad frame. -/
theorem frameCountIsChecked : Obligations.FrameCountIsChecked := by
  intro p f kind m s u training qualifying serving meeting all onlyCounted wrongSize g seen bad marked judged
  have hplain (h : u.state = .detect ∨ u.state = .train ∨ (u.state = .qualify ∧ u.qualify.ownPass = true)) :
      Acts p f s ∧ inService u = false ∧ checkCount p f s = setLine p seen s := by
    have hin : inService u = false := by rcases h with h | h | ⟨h, -⟩ <;> simp [inService, h]
    have hc : counting u = false := by rcases h with h | h | ⟨h, ho⟩ <;> simp [counting, *]
    refine ⟨?_, hin, checkCount_plain p f s hin hc⟩
    rcases h with h | h | ⟨h, ho⟩
    · exact .inl h
    · exact .inr (.inl h)
    · exact .inr (.inr (.inr ⟨h, .inl ho⟩))
  refine ⟨fun hin => ?_, fun hs => ?_, fun hs => ?_, fun hs ho => ?_, fun h => ?_, fun hs ho hb => ?_, fun hs ho hb => ⟨?_, ?_⟩,
    fun h => ?_, fun h => ?_⟩
  · have hacts : Acts p f s := .inr (.inr (.inl hin))
    have hmarked : checkCount p f s = marked := checkCount_inService p f s hin
    have hne : u.state ≠ .detect ∧ u.state ≠ .train ∧ u.state ≠ .qualify ∧ (line (checkCount p f s) p).state = u.state :=
      ⟨fun h => by simp [inService, h] at hin, fun h => by simp [inService, h] at hin, fun h => by simp [inService, h] at hin,
        line_checkCount_state hacts⟩
    obtain ⟨hd, ht, hq, hst⟩ := hne
    have hserve : inService (line (checkCount p f s) p) = true := by simpa only [inService, hst] using hin
    refine ⟨hmarked, congrArg Host.Outcome.next (hacts.receiveCounted.trans hmarked), fun hz => ?_, fun x hx hz => ?_, ?_, fun x hx hz => ?_⟩
    · rw [exec_idle_acts hacts (.inl hz), hmarked]
    · refine (exec_wrongSize (m := m) hacts x hx hz).trans (congrArg _ ?_)
      rw [badFrame_inService hserve, hmarked]
    · exact congrArg Host.Outcome.next ((if_neg hd).trans (badFrame_inService hin))
    · rw [← hmarked]
      simp only [List.mem_append] at hx
      obtain (hx | hx) | hx := hx
      · exact exec_meeting_counted hacts hd ht x hx hz
      · exact exec_training_counted hacts ht x hx hz
      · exact exec_qualifying_counted hacts hq x hx hz
  · obtain ⟨hacts, hin, hseen⟩ := hplain (.inl hs)
    intro x hx hz
    rw [← hseen]
    simp only [List.mem_append] at hx
    obtain (hx | hx) | hx := hx
    · exact exec_training_counted hacts (by rw [hs]; nofun) x hx hz
    · exact exec_qualifying_counted hacts (by rw [hs]; nofun) x hx hz
    · exact exec_serving_counted hacts hin x hx hz
  · obtain ⟨hacts, hin, hseen⟩ := hplain (.inr (.inl hs))
    intro x hx hz
    rw [← hseen]
    simp only [List.mem_cons, List.mem_append] at hx
    obtain rfl | hx | hx := hx
    · exact exec_wake_counted hacts (by rw [hs]; nofun) hz
    · exact exec_qualifying_counted hacts (by rw [hs]; nofun) x hx hz
    · exact exec_serving_counted hacts hin x hx hz
  · obtain ⟨hacts, hin, hseen⟩ := hplain (.inr (.inr ⟨hs, ho⟩))
    intro x hx hz
    rw [← hseen]
    simp only [List.mem_cons, List.mem_append] at hx
    obtain rfl | (hx | hx) | hx := hx
    · refine exec_test_counted hacts ?_ hz
      rw [hseen, line_setLine_same]
      simp [counting, seen, ho]
    · exact exec_meeting_counted hacts (by rw [hs]; nofun) (by rw [hs]; nofun) x hx hz
    · exact exec_training_counted hacts (by rw [hs]; nofun) x hx hz
    · exact exec_serving_counted hacts hin x hx hz
  · obtain ⟨hacts, hin, hseen⟩ := hplain h
    obtain ⟨hunknown, hidle, hwrong⟩ := exec_before_service (m := m) hacts hin kind
    rw [hseen] at hunknown hidle hwrong
    exact ⟨hseen, hunknown, hidle, hwrong⟩
  · have hin : inService u = false := by simp [inService, hs]
    have hacts : Acts p f s := .inr (.inr (.inr ⟨hs, .inr hb⟩))
    have hjudged : checkCount p f s = setLine p judged s := checkCount_below hs ho hb
    obtain ⟨hunknown, hidle, hwrong⟩ := exec_before_service (m := m) hacts hin kind
    rw [hjudged] at hunknown hidle hwrong
    refine ⟨hjudged, hunknown, hidle, hwrong, fun x hx hz => ?_⟩
    rw [← hjudged]
    simp only [List.mem_append] at hx
    obtain (hx | hx) | hx := hx
    · exact exec_meeting_counted hacts (by rw [hs]; nofun) (by rw [hs]; nofun) x hx hz
    · exact exec_training_counted hacts (by rw [hs]; nofun) x hx hz
    · exact exec_serving_counted hacts hin x hx hz
  · exact congrArg Host.Outcome.next (receiveCounted_fails hs ho hb)
  · intro x hx
    obtain ⟨act, he⟩ := exec_frame_receive p f m s x hx
    exact he.trans (congrArg Host.Outcome.next (receiveCounted_fails hs ho hb))
  · have hd : ¬u.state = .detect := by rcases h with h | h <;> rw [h] <;> nofun
    have hin : inService u = false := by rcases h with h | h <;> simp [inService, h]
    exact congrArg Host.Outcome.next ((if_neg hd).trans (badFrame_elsewhere hin))
  · have hd : ¬u.state = .detect := by rcases h with h | h <;> rw [h] <;> nofun
    have hin : inService u = false := by rcases h with h | h <;> simp [inService, h]
    have hdeaf : hears u = false := by rcases h with h | h <;> simp [hears, h]
    refine ⟨congrArg Host.Outcome.next ((if_neg hd).trans (badFrame_elsewhere hin)),
      congrArg Host.Outcome.next (if_neg (by change ¬hears u = true; rw [hdeaf]; nofun)), fun x hx => ?_⟩
    obtain ⟨act, he⟩ := exec_frame_receive p f m s x hx
    rw [he, receive_deaf _ _ _ _ _ hdeaf]

end Sys2Proof.Machine

namespace Sys2Proof.Machine

/-! ### A FRAG handed to the hold queue (R127 to R131, R142, R152) -/

section
variable {p : Pair} {s t : State} {f : Frame} {e : Seq} {x : HoldEntry}

theorem waiting_congr (hq : t.holdQueue = s.holdQueue) (hr : t.release = s.release) : waiting t = waiting s := by
  simp only [waiting, headAtE, hq, hr]

/-- R153: the effective skip time reads of a line unit only whether it is in service and its far ceiling. -/
theorem effectiveSkip_of_lines (hc : config t = config s)
    (hl : ∀ r, inService (line t r) = inService (line s r) ∧ (line t r).farCeiling = (line s r).farCeiling) :
    effectiveSkip t = effectiveSkip s := by
  have hceilings (z : State) : (servingLines z).map (·.farCeiling) =
      (allPairs.filter (fun r => inService (line z r))).map (fun r => (line z r).farCeiling) := by
    simp only [servingLines, List.filter_map, List.map_map]
    rfl
  have hskip (z : State) : effectiveSkip z =
      ((servingLines z).map (·.farCeiling)).foldl (fun t c => max t (c + Config.skipSlack)) (config z).skipTime := by
    simp only [effectiveSkip, List.foldl_map]
  rw [hskip, hskip, hceilings, hceilings, hc]
  simp only [hl]

/-- R152: an arrival that leaves the waiting condition as it was leaves the skip timer too. -/
theorem skipTimerAtArrival_same (h : waiting t = waiting s) : skipTimerAtArrival (waiting s) t = t := by
  simp only [skipTimerAtArrival, h]
  cases waiting s <;> rfl

theorem skipTimerAtArrival_begins (h : waiting t = true) :
    skipTimerAtArrival false t = { t with release := { t.release with skipTimer := loadedSkip t } } := by
  simp only [skipTimerAtArrival, h]
  rfl

theorem skipTimerAtArrival_ends (h : waiting t = false) :
    skipTimerAtArrival true t = withdrawBlock .skip { t with release := { t.release with skipTimer := .stopped } } := by
  simp only [skipTimerAtArrival, h]
  rfl

theorem holdArrival_eq (he : s.release.e = some e) :
    holdArrival x s = evidenceSkip (tryRelease (skipTimerAtArrival (waiting s) (classifyArrival e x s))) := by
  simp only [holdArrival, he]

theorem frameSizeOk_frag : frameSizeOk .frag f = true ↔ 16 ≤ f.lenLess1.toNat + 1 ∧ f.body.length = f.lenLess1.toNat + 1 := by
  simp [frameSizeOk, frameBody, frameLength]

/-- R74, R129: what a FRAG handed over leaves of the line units that the skip time reads. -/
theorem lines_fragReceived (hin : inService (line s p) = true) (r : Pair) :
    inService (line (fragReceived p f (checkCount p f s)) r) = inService (line s r) ∧
      (line (fragReceived p f (checkCount p f s)) r).farCeiling = (line s r).farCeiling := by
  by_cases hr : r = p
  · have hl : line (fragReceived p f (checkCount p f s)) p =
        { goodMarks (framesLost (line s p) f) (expects f (line s p)) with lastReceived := some (frameSeq f) } := by
      rw [fragReceived, line_countPair, line_modLine_same, line_checkCount_inService hin]
    rw [hr, hl]
    exact ⟨rfl, rfl⟩
  · rw [line_fragReceived_other f _ hr, line_checkCount_other f s hr]
    exact ⟨rfl, rfl⟩

/-- R129, R130: a FRAG in service at an ACTIVE station is counted and handed over. -/
theorem exec_frag_active (hz : frameSizeOk .frag f = true) (hin : inService (line s p) = true) (hm : s.group.mode = .active) :
    exec (.frag p f) s =
      .next (holdArrival (fragEntry p f s.timeBase) (fragReceived p f (checkCount p f s))) := by
  have hserve : inService (line (checkCount p f s) p) = true := by
    rw [line_checkCount_inService hin]
    exact hin
  refine congrArg Host.Outcome.next ((receive_inService _ _ _ _ _ hin hz).trans ((if_pos hserve).trans ?_))
  rw [if_pos (by simp [isActive, hm]), checkCount_timeBase]

theorem actFrag_outOfState (h : inService (line s p) = false) :
    actFrag p f s = countStation (fun c => { c with outOfState := satInc c.outOfState }) s := if_neg (by simp [h])

theorem actFrag_inactive (h : inService (line s p) = true) (hm : s.group.mode ≠ .active) : actFrag p f s = s :=
  (if_pos h).trans (if_neg (by simp [isActive, hm]))

end

/-- Settles O60: a FRAG by state, by size, by the station's mode and by the waiting condition before and after it. -/
theorem fragIsHandedToTheHoldQueue : Obligations.FragIsHandedToTheHoldQueue := by
  intro p f s e u x t received stored
  have hfail (hs : u.state = .qualify) (ho : u.qualify.ownPass = false) (hb : 5 ≤ u.qualify.bad + framesLost u f) :
      exec (.frag p f) s = .next t :=
    congrArg Host.Outcome.next ((receiveCounted_fails hs ho hb).trans (checkCount_fails hs ho hb).symm)
  have hserve (hin : inService u = true) : inService (line t p) = true := by
    rw [show line t p = goodMarks (framesLost u f) (expects f u) from line_checkCount_inService hin]
    exact hin
  have hout (h : u.state = .detect ∨ u.state = .train ∨ u.state = .qualify) (ha : Acts p f s) : inService (line t p) = false := by
    have hst : (line t p).state = u.state := line_checkCount_state ha
    rcases h with h | h | h <;> simp [inService, hst, h]
  refine ⟨frameSizeOk_frag, fun hz hin hm he => ?_, fun hz h => ?_, fun hz hin hm => ?_, hfail, fun hz h => ?_, fun h => ?_, fun hz hin => ?_⟩
  · have hrelease : stored.release = s.release :=
      (classifyArrival_release e x received).trans ((fragReceived_release p f t).trans (checkCount_release p f s))
    have hbefore : waiting received = waiting s :=
      waiting_congr ((fragReceived_holdQueue p f t).trans (checkCount_holdQueue p f s))
        ((fragReceived_release p f t).trans (checkCount_release p f s))
    have hskip : effectiveSkip stored = effectiveSkip s := by
      have hconfig : config stored = config s := by
        simp only [config, stored, classifyArrival_group]
        exact congrArg (fun g : GroupMonitor => g.record.getD .defaults) ((fragReceived_group p f t).trans (checkCount_group p f s))
      have hlines : stored.lines = received.lines := classifyArrival_lines e x received
      refine effectiveSkip_of_lines hconfig fun r => ?_
      rw [show line stored r = line received r from congrArg (quadGet · r) hlines]
      exact lines_fragReceived hin r
    have hexec : exec (.frag p f) s = .next (evidenceSkip (tryRelease (skipTimerAtArrival (waiting s) stored))) := by
      refine (exec_frag_active hz hin hm).trans (congrArg _ ?_)
      rw [holdArrival_eq (e := e) (by rw [fragReceived_release, checkCount_release]; exact he)]
      exact congrArg (fun b => evidenceSkip (tryRelease (skipTimerAtArrival b stored))) hbefore
    refine ⟨fun h => ?_, fun hb ha => ?_, fun hb ha => ?_⟩
    · rw [hexec, skipTimerAtArrival_same h.symm]
    · rw [hexec, hb, skipTimerAtArrival_begins ha, loadedSkip, hskip, hrelease]
    · rw [hexec, hb, skipTimerAtArrival_ends ha, hrelease]
  · have ha : Acts p f s := by
      rcases h with h | h | h
      · exact .inl h
      · exact .inr (.inl h)
      · exact .inr (.inr (.inr h))
    refine congrArg Host.Outcome.next ((receive_checked hz ha).trans (actFrag_outOfState (hout ?_ ha)))
    exact h.imp_right (Or.imp_right (·.1))
  · refine congrArg Host.Outcome.next ((receive_inService _ _ _ _ _ hin hz).trans (actFrag_inactive (hserve hin) ?_))
    rw [checkCount_group]
    exact hm
  · by_cases hb : u.state = .qualify ∧ u.qualify.ownPass = false ∧ 5 ≤ u.qualify.bad + framesLost u f
    · obtain ⟨hs, ho, hb⟩ := hb
      exact hfail hs ho hb
    · have ha : Acts p f s := by
        rcases h with h | h | h
        · exact .inl h
        · exact .inr (.inl h)
        · refine .inr (.inr (.inr ⟨h, ?_⟩))
          cases ho : u.qualify.ownPass with
          | true => exact .inl rfl
          | false => exact .inr (Nat.lt_of_not_le fun hle => hb ⟨h, ho, hle⟩)
      rw [exec_wrongSize (m := 0) ha (.frag, .frag p f) (.head _) hz, badFrame_elsewhere (hout h ha)]
  · have hdeaf : hears u = false := by rcases h with h | h <;> simp [hears, h]
    exact congrArg Host.Outcome.next (receive_deaf _ _ _ _ _ hdeaf)
  · rw [exec_wrongSize (m := 0) (.inr (.inr (.inl hin))) (.frag, .frag p f) (.head _) hz, badFrame_inService (hserve hin)]

end Sys2Proof.Machine

namespace Sys2Proof.Machine

/-! ## Monitor periods in service (R107 to R110) -/

/-! ### The LOS filter -/

/-- R108, R109: where a judged period takes LOS, its two runs and the LOS hold timer. -/
structure LosMoved (hold : Nat) (dark : Bool) (u : LineUnit) (los : Bool) (darkRun nonDarkRun : Nat) (losHold : Timer) : Prop where
  darkens : u.los = false → dark = true → u.svc.darkRun < 2 → los = false ∧ darkRun = u.svc.darkRun + 1 ∧ nonDarkRun = 0
  turnsOn : u.los = false → dark = true → 2 ≤ u.svc.darkRun →
    los = true ∧ darkRun = 0 ∧ (u.state = .service → losHold = .running (hold * 1000))
  staysOff : u.los = false → dark = false → los = false ∧ darkRun = 0
  staysOn : u.los = true → dark = true → los = true ∧ nonDarkRun = 0
  lightens : u.los = true → dark = false → u.svc.nonDarkRun < 2 → los = true ∧ nonDarkRun = u.svc.nonDarkRun + 1 ∧ darkRun = 0
  turnsOff : u.los = true → dark = false → 2 ≤ u.svc.nonDarkRun → los = false ∧ nonDarkRun = 0 ∧ losHold = .stopped

section
variable {u : LineUnit} {dark : Bool}

theorem losFilter_off_light (hl : u.los = false) : losFilter false u = { u with svc := { u.svc with darkRun := 0 } } := by
  simp only [losFilter, hl, Bool.false_eq_true, if_false]

theorem losFilter_off_dark (hl : u.los = false) (h : u.svc.darkRun < 2) :
    losFilter true u = { u with svc := { u.svc with darkRun := u.svc.darkRun + 1, nonDarkRun := 0 } } := by
  simp only [losFilter, hl, Bool.false_eq_true, if_false, if_true]
  rw [if_neg (by omega)]

theorem losFilter_turnsOn (hl : u.los = false) (h : 2 ≤ u.svc.darkRun) :
    losFilter true u = { u with los := true, svc := { u.svc with darkRun := 0, nonDarkRun := 0 } } := by
  simp only [losFilter, hl, Bool.false_eq_true, if_false, if_true]
  rw [if_pos (by omega)]

theorem losFilter_on_dark (hl : u.los = true) : losFilter true u = { u with svc := { u.svc with nonDarkRun := 0 } } := by
  simp only [losFilter, hl, if_true]

theorem losFilter_on_light (hl : u.los = true) (h : u.svc.nonDarkRun < 2) :
    losFilter false u = { u with svc := { u.svc with nonDarkRun := u.svc.nonDarkRun + 1, darkRun := 0 } } := by
  simp only [losFilter, hl, Bool.false_eq_true, if_false, if_true]
  rw [if_neg (by omega)]

theorem losFilter_turnsOff (hl : u.los = true) (h : 2 ≤ u.svc.nonDarkRun) :
    losFilter false u = { u with los := false, svc := { u.svc with nonDarkRun := 0, darkRun := 0 } } := by
  simp only [losFilter, hl, Bool.false_eq_true, if_false, if_true]
  rw [if_pos (by omega)]

end

section
variable {p : Pair} {s t : State} {dark : Bool} {v : LineUnit}

/-- R175: the ring after an event depends on the ring, the freeze flag and the time base. -/
theorem recordEvent_ring_congr (k : EventKind) (a b : Nat) (hr : t.status.ring = s.status.ring)
    (hf : t.status.frozen = s.status.frozen) (ht : t.timeBase = s.timeBase) :
    (recordEvent k a b t).status.ring = (recordEvent k a b s).status.ring := by
  unfold recordEvent
  rw [hr, hf, ht]
  split
  · exact hr
  · rfl

/-- The line unit with its LOS, the two runs and the LOS hold timer replaced. -/
def withLos (l : Bool) (d n : Nat) (h : Timer) (u : LineUnit) : LineUnit :=
  { u with los := l, svc := { u.svc with darkRun := d, nonDarkRun := n, losHold := h } }

/-- R108, R109: what a judged period leaves of the state. -/
structure LosJudged (p : Pair) (dark : Bool) (s t : State) (los : Bool) (darkRun nonDarkRun : Nat) (losHold : Timer) : Prop where
  moved : LosMoved (config s).losHold dark (line s p) los darkRun nonDarkRun losHold
  line_eq : line t p = withLos los darkRun nonDarkRun losHold (line s p)
  config_eq : config t = config s
  live_eq : t.status.live = s.status.live
  ring_same : los = (line s p).los → t.status.ring = s.status.ring
  ring_moved : los ≠ (line s p).los →
    t.status.ring = (recordEvent (if los then .losOn else .losOff) (pairIndex p) 0 s).status.ring

theorem judgeLos_same (h : losFilter dark (line s p) = v) (hl : v.los = (line s p).los) : judgeLos p dark s = setLine p v s := by
  rw [judgeLos, h]
  exact if_pos hl

theorem judgeLos_changed (h : losFilter dark (line s p) = v) (hl : v.los ≠ (line s p).los) :
    judgeLos p dark s =
      recordEvent (if v.los then .losOn else .losOff) (pairIndex p) 0 (setLine p (losHoldAtChange (config s).losHold v) s) := by
  rw [judgeLos, h]
  exact if_neg hl

/-- A judged period that leaves LOS as it was. -/
theorem losJudged_same {d n : Nat} (h : losFilter dark (line s p) = { line s p with svc := { (line s p).svc with darkRun := d, nonDarkRun := n } })
    (hm : LosMoved (config s).losHold dark (line s p) (line s p).los d n (line s p).svc.losHold) :
    LosJudged p dark s (judgeLos p dark s) (line s p).los d n (line s p).svc.losHold := by
  rw [judgeLos_same h rfl]
  exact ⟨hm, line_setLine_same _ _ _, rfl, rfl, fun _ => rfl, fun hne => absurd rfl hne⟩

/-- A judged period that turns LOS on or off. -/
theorem losJudged_changed {l : Bool} {d n : Nat} {t : Timer}
    (h : losFilter dark (line s p) = { line s p with los := l, svc := { (line s p).svc with darkRun := d, nonDarkRun := n } })
    (hl : l ≠ (line s p).los)
    (ht : t = if l && (line s p).state == .service then .running ((config s).losHold * 1000) else .stopped)
    (hm : LosMoved (config s).losHold dark (line s p) l d n t) :
    LosJudged p dark s (judgeLos p dark s) l d n t := by
  rw [judgeLos_changed h hl]
  refine ⟨hm, ?_, ?_, recordEvent_live _ _ _ _, fun he => absurd he hl, fun _ => recordEvent_ring_congr _ _ _ rfl rfl rfl⟩
  · rw [line_recordEvent, line_setLine_same, ht]
    rfl
  · simp only [config, recordEvent_group, setLine_group]

/-- R108: every judged period. -/
theorem judgeLos_judged (p : Pair) (dark : Bool) (s : State) : ∃ l d n h, LosJudged p dark s (judgeLos p dark s) l d n h := by
  cases hl : (line s p).los with
  | false =>
    cases dark with
    | false => exact ⟨_, _, _, _, losJudged_same (losFilter_off_light hl) (by constructor <;> simp [hl])⟩
    | true =>
      rcases Nat.lt_or_ge (line s p).svc.darkRun 2 with h | h
      · exact ⟨_, _, _, _, losJudged_same (losFilter_off_dark hl h) (by constructor <;> simp [hl]; omega)⟩
      · exact ⟨_, _, _, _, losJudged_changed (losFilter_turnsOn hl h) (by simp [hl]) rfl (by constructor <;> simp +contextual [hl]; omega)⟩
  | true =>
    cases dark with
    | true => exact ⟨_, _, _, _, losJudged_same (losFilter_on_dark hl) (by constructor <;> simp [hl])⟩
    | false =>
      rcases Nat.lt_or_ge (line s p).svc.nonDarkRun 2 with h | h
      · exact ⟨_, _, _, _, losJudged_same (losFilter_on_light hl h) (by constructor <;> simp [hl]; omega)⟩
      · exact ⟨_, _, _, _, losJudged_changed (losFilter_turnsOff hl h) (by simp [hl]) rfl (by constructor <;> simp [hl]; omega)⟩

/-! ### The errored window -/

theorem judgeWindow_windDown {e : Bool} (hs : (line s p).state ≠ .service) : judgeWindow p e s = s := if_neg hs

/-- R110: a period of SERVICE before the window's last. -/
theorem judgeWindow_open {e : Bool} (hs : (line s p).state = .service) (hp : (line s p).svc.windowPeriods < 999) :
    judgeWindow p e s =
      setLine p { line s p with
        svc := { (line s p).svc with
          windowPeriods := (line s p).svc.windowPeriods + 1
          windowErrored := (line s p).svc.windowErrored + (if e then 1 else 0) } } s := by
  have hw : windowAfter (config s).errorThreshold e (line s p).svc =
      ({ (line s p).svc with
        windowPeriods := (line s p).svc.windowPeriods + 1
        windowErrored := (line s p).svc.windowErrored + (if e then 1 else 0) }, false) :=
    if_neg (by simp only [Config.windowPeriods]; omega)
  simp only [judgeWindow, if_pos hs, hw, Bool.false_eq_true, if_false]

/-- R110: the window's last period closes it, and at the threshold starts a wind-down. -/
theorem judgeWindow_closes {e : Bool} (hs : (line s p).state = .service) (hp : (line s p).svc.windowPeriods = 999) :
    judgeWindow p e s =
      if (config s).errorThreshold ≤ (line s p).svc.windowErrored + (if e then 1 else 0) then
        startWindDown p .errors
          (setLine p { line s p with svc := { (line s p).svc with windowPeriods := 0, windowErrored := 0 } } s)
      else setLine p { line s p with svc := { (line s p).svc with windowPeriods := 0, windowErrored := 0 } } s := by
  have hw : windowAfter (config s).errorThreshold e (line s p).svc =
      ({ (line s p).svc with windowPeriods := 0, windowErrored := 0 },
        decide ((config s).errorThreshold ≤ (line s p).svc.windowErrored + (if e then 1 else 0))) :=
    if_pos (by simp only [Config.windowPeriods]; omega)
  simp only [judgeWindow, if_pos hs, hw, decide_eq_true_eq]

end

end Sys2Proof.Machine

namespace Sys2Proof.Machine

/-! ### A period of SERVICE or WIND-DOWN (R107, R108, R110) -/

/-- R110: the line unit after a period within the window. -/
def windowOpen (count : Nat) (v : LineUnit) : LineUnit :=
  { v with svc := { v.svc with windowPeriods := v.svc.windowPeriods + 1, windowErrored := count } }

/-- R110: the line unit after the window's last period. -/
def windowClosed (v : LineUnit) : LineUnit := { v with svc := { v.svc with windowPeriods := 0, windowErrored := 0 } }

/-- R118: the line unit that winds down for ERRORS. -/
def woundDown (v : LineUnit) : LineUnit :=
  { v with
    state := .windDown
    ctl := { v.ctl with windDown := some .errors, rateAsk := none }
    svc :=
      { v.svc with
        losHold := .stopped
        windowPeriods := 0
        windowErrored := 0
        reRateCheck := .stopped
        downStreak := 0
        upStreak := 0
        request := false
        reRateTimer := .stopped
        windDown := some ⟨.errors, .running 20000, false, false, false, none⟩ } }

theorem startWindDown_errors (p : Pair) (v : LineUnit) (s : State) :
    startWindDown p .errors (setLine p v s) =
      countPair p (fun c => { c with windDownErrors := satInc c.windDownErrors }) (setLine p (woundDown v) s) := by
  rw [startWindDown_eq, line_setLine_same, setLine_setLine, show decide (WindDownReason.errors = .farRequest) = false from rfl,
    Bool.false_and, Bool.false_and, Bool.or_false]
  rfl

/-- R107: the errored periods of the window after this one. -/
def erroredCount (u : LineUnit) : Nat := u.svc.windowErrored + (if periodErrored u.svc then 1 else 0)

/-- R107: the pair's counters after a period, errored or not. -/
def erroredCounted (u : LineUnit) (c : PairCounters) : PairCounters :=
  { c with erroredPeriods := if periodErrored u.svc then satInc c.erroredPeriods else c.erroredPeriods }

/-- R110: how the period ends: in WIND-DOWN, within the window, or at its last period below or at the threshold. -/
inductive PeriodEnd (p : Pair) (s : State) (v : LineUnit) (t : State) : Prop where
  | winding : (line s p).state ≠ .service → line t p = v →
      quadGet t.status.live.pairs p = erroredCounted (line s p) (quadGet s.status.live.pairs p) → PeriodEnd p s v t
  | within : (line s p).state = .service → (line s p).svc.windowPeriods < 999 →
      line t p = windowOpen (erroredCount (line s p)) v →
      quadGet t.status.live.pairs p = erroredCounted (line s p) (quadGet s.status.live.pairs p) → PeriodEnd p s v t
  | closing : (line s p).state = .service → (line s p).svc.windowPeriods = 999 →
      erroredCount (line s p) < (config s).errorThreshold → line t p = windowClosed v →
      quadGet t.status.live.pairs p = erroredCounted (line s p) (quadGet s.status.live.pairs p) → PeriodEnd p s v t
  | reached : (line s p).state = .service → (line s p).svc.windowPeriods = 999 →
      (config s).errorThreshold ≤ erroredCount (line s p) → line t p = woundDown v →
      quadGet t.status.live.pairs p =
        { erroredCounted (line s p) (quadGet s.status.live.pairs p) with
          windDownErrors := satInc (quadGet s.status.live.pairs p).windDownErrors } → PeriodEnd p s v t

/-- R107: the period's marks cleared, and an errored one counted. -/
def periodCounted (p : Pair) (s : State) : State :=
  if periodErrored (line s p).svc then
    countPair p (fun c => { c with erroredPeriods := satInc c.erroredPeriods }) (setLine p (nextPeriod (line s p)) s)
  else setLine p (nextPeriod (line s p)) s

section
variable {p : Pair} {s : State}

theorem servicePeriod_eq (p : Pair) (s : State) :
    servicePeriod p s =
      judgeWindow p (periodErrored (line s p).svc) (judgeLos p (periodDark (line s p).svc) (periodCounted p s)) := rfl

theorem periodCounted_parts (p : Pair) (s : State) :
    line (periodCounted p s) p = nextPeriod (line s p) ∧ config (periodCounted p s) = config s ∧
      (periodCounted p s).status.ring = s.status.ring ∧ (periodCounted p s).status.frozen = s.status.frozen ∧
      (periodCounted p s).timeBase = s.timeBase ∧
      quadGet (periodCounted p s).status.live.pairs p = erroredCounted (line s p) (quadGet s.status.live.pairs p) := by
  unfold periodCounted
  cases he : periodErrored (line s p).svc with
  | false =>
    refine ⟨line_setLine_same _ _ _, rfl, rfl, rfl, rfl, ?_⟩
    simp only [erroredCounted, he, Bool.false_eq_true, if_false]
    rfl
  | true =>
    refine ⟨line_setLine_same _ _ _, rfl, rfl, rfl, rfl, ?_⟩
    simp only [erroredCounted, he, if_true, countPair, quadGet_quadSet_same]
    rfl

/-- R107, R108, R110: a period by its window, LOS, its runs and its hold timer moved as R108 and R109 say. -/
theorem servicePeriod_ends (hle : (line s p).svc.windowPeriods ≤ 999) :
    ∃ l d n h, LosMoved (config s).losHold (periodDark (line s p).svc) (line s p) l d n h ∧
      PeriodEnd p s (withLos l d n h (nextPeriod (line s p))) (servicePeriod p s) ∧
      (l = (line s p).los → (servicePeriod p s).status.ring = s.status.ring) ∧
      (l ≠ (line s p).los →
        (servicePeriod p s).status.ring = (recordEvent (if l then .losOn else .losOff) (pairIndex p) 0 s).status.ring) := by
  obtain ⟨hline, hconfig, hring, hfrozen, htime, hpairs⟩ := periodCounted_parts p s
  obtain ⟨l, d, n, h, hj⟩ := judgeLos_judged p (periodDark (line s p).svc) (periodCounted p s)
  obtain ⟨⟨m1, m2, m3, m4, m5, m6⟩, hv, hc, hlive, hsame, hmoved⟩ := hj
  rw [hline] at m1 m2 m3 m4 m5 m6 hv hsame hmoved
  rw [hconfig] at m2 hc
  rw [← hlive] at hpairs
  rw [hring] at hsame
  have hevent := fun k => recordEvent_ring_congr k (pairIndex p) 0 hring hfrozen htime
  let t := judgeLos p (periodDark (line s p).svc) (periodCounted p s)
  have hcount : (line t p).svc.windowErrored + (if periodErrored (line s p).svc then 1 else 0) = erroredCount (line s p) := by
    rw [hv]
    rfl
  have hperiods : (line t p).svc.windowPeriods = (line s p).svc.windowPeriods := by
    rw [hv]
    rfl
  have hstate : (line t p).state = (line s p).state := by
    rw [hv]
    rfl
  have hlast : PeriodEnd p s (withLos l d n h (nextPeriod (line s p))) (servicePeriod p s) ∧ (servicePeriod p s).status.ring = t.status.ring := by
    rw [servicePeriod_eq]
    by_cases hs : (line s p).state = .service
    · rcases Nat.lt_or_ge (line s p).svc.windowPeriods 999 with hp | hp
      · rw [judgeWindow_open (s := t) (hstate.trans hs) (by rw [hperiods]; exact hp), hcount]
        refine ⟨.within hs hp ?_ hpairs, rfl⟩
        rw [line_setLine_same, hv]
        rfl
      · have hp : (line s p).svc.windowPeriods = 999 := by omega
        rw [judgeWindow_closes (s := t) (hstate.trans hs) (hperiods.trans hp), hcount, hc]
        rcases Nat.lt_or_ge (erroredCount (line s p)) (config s).errorThreshold with hr | hr
        · rw [if_neg (by omega)]
          refine ⟨.closing hs hp hr ?_ hpairs, rfl⟩
          rw [line_setLine_same, hv]
          rfl
        · rw [if_pos hr, startWindDown_errors]
          refine ⟨.reached hs hp hr ?_ ?_, rfl⟩
          · rw [line_countPair, line_setLine_same, hv]
            rfl
          · simp only [countPair, quadGet_quadSet_same, setLine_status, t, hpairs]
            rfl
    · rw [judgeWindow_windDown (s := t) (by rw [hstate]; exact hs)]
      exact ⟨.winding hs hv hpairs, rfl⟩
  obtain ⟨hend, hlastRing⟩ := hlast
  exact ⟨l, d, n, h, ⟨m1, m2, m3, m4, m5, m6⟩, hend, fun he => hlastRing.trans (hsame he),
    fun he => hlastRing.trans ((hmoved he).trans (hevent _))⟩

/-- R107, R108: what every period leaves of the line unit, whatever becomes of the window. -/
structure PeriodKept (u w : LineUnit) (l : Bool) (d n : Nat) : Prop where
  monitor : w.monitor = .running 1000
  marks : w.svc.good = false ∧ w.svc.bad = false ∧ w.svc.errored = false
  los : w.los = l ∧ w.svc.darkRun = d ∧ w.svc.nonDarkRun = n
  frames : w.queue = u.queue ∧ w.tx = u.tx
  rates : w.sendRate = u.sendRate ∧ w.recvRate = u.recvRate ∧ w.k = u.k

theorem PeriodEnd.kept {l : Bool} {d n : Nat} {h : Timer} {t : State} (he : PeriodEnd p s (withLos l d n h (nextPeriod (line s p))) t) :
    PeriodKept (line s p) (line t p) l d n := by
  obtain ⟨-, hl, -⟩ | ⟨-, -, hl, -⟩ | ⟨-, -, -, hl, -⟩ | ⟨-, -, -, hl, -⟩ := he <;> rw [hl] <;>
    exact ⟨rfl, ⟨rfl, rfl, rfl⟩, ⟨rfl, rfl, rfl⟩, ⟨rfl, rfl⟩, ⟨rfl, rfl, rfl⟩⟩

/-- R110: below the window's threshold the pair stays in its state. -/
theorem PeriodEnd.stays {l : Bool} {d n : Nat} {h : Timer} {t : State} (he : PeriodEnd p s (withLos l d n h (nextPeriod (line s p))) t)
    (hr : ¬((line s p).state = .service ∧ (line s p).svc.windowPeriods = 999 ∧
      (config s).errorThreshold ≤ erroredCount (line s p))) :
    (line t p).state = (line s p).state ∧ (line t p).ctl = (line s p).ctl ∧ (line t p).svc.windDown = (line s p).svc.windDown ∧
      (line t p).svc.losHold = h ∧
      quadGet t.status.live.pairs p = erroredCounted (line s p) (quadGet s.status.live.pairs p) := by
  obtain ⟨-, hl, hc⟩ | ⟨-, -, hl, hc⟩ | ⟨-, -, -, hl, hc⟩ | ⟨hs, hp, hle, -, -⟩ := he
  · rw [hl]
    exact ⟨rfl, rfl, rfl, rfl, hc⟩
  · rw [hl]
    exact ⟨rfl, rfl, rfl, rfl, hc⟩
  · rw [hl]
    exact ⟨rfl, rfl, rfl, rfl, hc⟩
  · exact absurd ⟨hs, hp, hle⟩ hr

/-- R110, R118: at the threshold the pair winds down. -/
theorem PeriodEnd.winds {v : LineUnit} {t : State} (he : PeriodEnd p s v t) (hs : (line s p).state = .service)
    (hp : (line s p).svc.windowPeriods = 999) (hr : (config s).errorThreshold ≤ erroredCount (line s p)) :
    line t p = woundDown v ∧
      quadGet t.status.live.pairs p =
        { erroredCounted (line s p) (quadGet s.status.live.pairs p) with
          windDownErrors := satInc (quadGet s.status.live.pairs p).windDownErrors } := by
  obtain ⟨hn, -, -⟩ | ⟨-, hlt, -, -⟩ | ⟨-, -, hlt, -, -⟩ | ⟨-, -, -, hl, hc⟩ := he
  · exact absurd hs hn
  · omega
  · omega
  · exact ⟨hl, hc⟩

theorem PeriodEnd.window_within {v : LineUnit} {t : State} (he : PeriodEnd p s v t) (hs : (line s p).state = .service)
    (hp : (line s p).svc.windowPeriods < 999) : line t p = windowOpen (erroredCount (line s p)) v := by
  obtain ⟨hn, -, -⟩ | ⟨-, -, hl, -⟩ | ⟨-, h9, -, -, -⟩ | ⟨-, h9, -, -, -⟩ := he
  · exact absurd hs hn
  · exact hl
  · omega
  · omega

theorem PeriodEnd.window_closed {v : LineUnit} {t : State} (he : PeriodEnd p s v t) (hs : (line s p).state = .service)
    (hp : (line s p).svc.windowPeriods = 999) : (line t p).svc.windowPeriods = 0 ∧ (line t p).svc.windowErrored = 0 := by
  obtain ⟨hn, -, -⟩ | ⟨-, hlt, -, -⟩ | ⟨-, -, -, hl, -⟩ | ⟨-, -, -, hl, -⟩ := he
  · exact absurd hs hn
  · omega
  · rw [hl]
    exact ⟨rfl, rfl⟩
  · rw [hl]
    exact ⟨rfl, rfl⟩

theorem PeriodEnd.window_windDown {v : LineUnit} {t : State} (he : PeriodEnd p s v t) (hs : (line s p).state ≠ .service) : line t p = v := by
  obtain ⟨-, hl, -⟩ | ⟨h, -, -, -⟩ | ⟨h, -, -, -, -⟩ | ⟨h, -, -, -, -⟩ := he
  · exact hl
  · exact absurd h hs
  · exact absurd h hs
  · exact absurd h hs

theorem servicePeriod_frame (p : Pair) (s : State) :
    servicePeriod p s = { s with lines := (servicePeriod p s).lines, status := (servicePeriod p s).status } := by
  rw [← servicePeriod_port p s, ← servicePeriod_group p s, ← servicePeriod_sequencer p s, ← servicePeriod_holdQueue p s,
    ← servicePeriod_release p s, ← servicePeriod_timeBase p s, ← servicePeriod_pending p s]

theorem exec_monitorPeriodEnd_service (hin : inService (line s p) = true) (hm : (line s p).monitor = .running 0) :
    exec (.monitorPeriodEnd p) s = .next (servicePeriod p s) := by
  have hd : ¬(line s p).state = .detect := fun h => by simp [inService, h] at hin
  exact congrArg Host.Outcome.next ((whenLine_due (by simp [isDue, hm])).trans ((if_neg hd).trans (if_pos hin)))

end

/-- Settles O53: a period by what R108 makes of LOS and by how its window ends. -/
theorem servicePeriodIsJudged : Obligations.ServicePeriodIsJudged := by
  intro p s n hin u dark errored count reached c
  have hidle {t : Timer} (h : t = .running (n + 1)) : isDue t = false := by rw [h]; rfl
  refine ⟨fun hd => ?_, fun hd => ?_, fun hd => ?_, fun hm hle => ?_⟩
  · exact congrArg Host.Outcome.next (whenLine_idle (by rw [hidle hd, Bool.and_false]))
  · exact congrArg Host.Outcome.next (whenLine_idle (hidle hd))
  · exact congrArg Host.Outcome.next (whenLine_due (by simp [hin, isDue, show (line s p).serviceClock = _ from hd]))
  obtain ⟨l, d, m, h, moved, hend, hsame, hring⟩ := servicePeriod_ends hle
  let t := servicePeriod p s
  obtain ⟨hmonitor, ⟨hgood, hbad, herr⟩, ⟨hlos, hdark, hlight⟩, ⟨hqueue, htx⟩, ⟨hsend, hrecv, hk⟩⟩ := hend.kept
  have hstays (hr : ¬(u.state = .service ∧ reached)) := hend.stays hr
  refine ⟨t, exec_monitorPeriodEnd_service hin hm, hmonitor, hgood, hbad, herr, fun h0 h1 h2 => ?_, fun h0 h1 h2 => ?_, fun h0 h1 => ?_,
    fun h0 h1 => ?_, fun h0 h1 h2 => ?_, fun h0 h1 h2 => ?_, fun he => hsame (hlos.symm.trans he), fun hs hp => ?_, fun hs hp => ?_,
    fun hr => ?_, fun hs => ?_, ?_, hqueue, htx, hsend, hrecv, hk, fun r hr => line_servicePeriod_other s hr, ?_⟩
  · obtain ⟨e1, e2, e3⟩ := moved.darkens h0 h1 h2
    exact ⟨hlos.trans e1, hdark.trans e2, hlight.trans e3⟩
  · obtain ⟨e1, e2, e3⟩ := moved.turnsOn h0 h1 h2
    have hne : l ≠ u.los := by rw [e1, h0]; nofun
    refine ⟨hlos.trans e1, hdark.trans e2, (hring hne).trans (by rw [e1]; rfl), fun hs hr => ?_⟩
    obtain ⟨-, -, -, hh, -⟩ := hstays fun ⟨_, hr'⟩ => hr hr'
    exact hh.trans (e3 hs)
  · obtain ⟨e1, e2⟩ := moved.staysOff h0 h1
    exact ⟨hlos.trans e1, hdark.trans e2⟩
  · obtain ⟨e1, e2⟩ := moved.staysOn h0 h1
    exact ⟨hlos.trans e1, hlight.trans e2⟩
  · obtain ⟨e1, e2, e3⟩ := moved.lightens h0 h1 h2
    exact ⟨hlos.trans e1, hlight.trans e2, hdark.trans e3⟩
  · obtain ⟨e1, e2, e3⟩ := moved.turnsOff h0 h1 h2
    have hne : l ≠ u.los := by rw [e1, h0]; nofun
    refine ⟨hlos.trans e1, hlight.trans e2, ?_, (hring hne).trans (by rw [e1]; rfl)⟩
    by_cases hr : u.state = .service ∧ reached
    · obtain ⟨hs, hp, hr⟩ := hr
      obtain ⟨hl, -⟩ := hend.winds hs hp hr
      rw [hl]
      rfl
    · obtain ⟨-, -, -, hh, -⟩ := hstays hr
      exact hh.trans e3
  · rw [hend.window_within hs hp]
    exact ⟨hs, rfl, rfl⟩
  · obtain ⟨hp0, he0⟩ := hend.window_closed hs hp
    refine ⟨hp0, he0, fun hr => ?_, fun hr => ?_⟩
    · obtain ⟨hl, -⟩ := hend.winds hs hp hr
      rw [hl]
      exact ⟨rfl, rfl, rfl⟩
    · obtain ⟨hst, -⟩ := hstays fun ⟨_, _, hr'⟩ => absurd hr' (Nat.not_le.2 hr)
      exact hst.trans hs
  · obtain ⟨-, hctl, hw, -⟩ := hstays hr
    exact ⟨hctl, hw⟩
  · rw [hend.window_windDown (by rw [show (line s p).state = _ from hs]; nofun)]
    exact ⟨hs, rfl, rfl⟩
  · by_cases hr : u.state = .service ∧ reached
    · obtain ⟨hs, hp, hle⟩ := hr
      obtain ⟨-, hc⟩ := hend.winds hs hp hle
      rw [if_pos (c := u.state = .service ∧ reached) ⟨hs, hp, hle⟩]
      exact hc
    · obtain ⟨-, -, -, -, hc⟩ := hstays hr
      rw [if_neg hr]
      exact hc
  · exact servicePeriod_frame p s

end Sys2Proof.Machine
